-- ==== Sys2Proof/Word.lean ====
section
/-! DEFINITION. The word types of the block: bytes on the link, the 16-bit and 32-bit register values (R6, R14, R20). -/

namespace Sys2Proof

/-- A byte: a register address, a data byte, a mode byte, a status byte (R6). -/
abbrev Byte := BitVec 8

/-- A 16-bit value: the contents of a paired-byte register (R20, class `W16`). -/
abbrev Half := BitVec 16

/-- A 32-bit value: the contents of a burst-written register group (R20, class `W32`). -/
abbrev Word := BitVec 32

end Sys2Proof
end

