-- ==== Sys2Proof/Config.lean ====
section
/-! DEFINITION. The configuration record `Cfg` of R5 as plain data, the register map of R20, the bytes the spec
fixes, the example assignment `P_EX` (D13), and the free values: the answers of the serial link and the target that
nothing in a state lists (R13, R29). -/

namespace Sys2Proof

/-- The mode bytes, byte 0 of every frame (R72); fixed by the spec. -/
def modeCmdw : Byte := 0x00#8
/-- Mode byte of a status-read frame (R72). -/
def modeStsr : Byte := 0x40#8
/-- Mode byte of a data-write frame and of a burst frame (R72, R74). -/
def modeDatw : Byte := 0x80#8
/-- Mode byte of a data-read frame (R72). -/
def modeDatr : Byte := 0xC0#8

/-- `TEXT_CHUNK_MAX`, the largest text chunk in one burst; fixed by the spec (R5, R159). -/
def textChunkMax : Nat := 16

/-- Width class of a target register: which write protocol belongs to it (R20, R23). -/
inductive WidthClass where
  | w8 | w16 | w32
deriving DecidableEq, Repr, Inhabited

/-- A register write of a `CFG_*` list: class, register address and a value of that class's width (R5). -/
inductive RegWrite where
  | w8 (reg : Byte) (v : Byte)
  | w16 (reg : Byte) (v : Half)
  | w32 (reg : Byte) (v : Word)
deriving DecidableEq, Repr, Inhabited

/-- The named registers of the target (R20). -/
inductive Reg where
  | sdramCtrl | dispWidth | dispHeight | dispCtrl | textCtrl | dataPort | tcurX | tcurY
  | bteDestAddr | bteDestX | bteDestY | bteColr | bteAlpha | bteDestWidth | bteWidth | bteHeight
  | fgcR | fgcG | fgcB | bteSetup | bteCtrl
deriving DecidableEq, Repr, Inhabited

/-- Every named register, in the order of R20's table. -/
def Reg.all : List Reg :=
  [.sdramCtrl, .dispWidth, .dispHeight, .dispCtrl, .textCtrl, .dataPort, .tcurX, .tcurY, .bteDestAddr, .bteDestX,
   .bteDestY, .bteColr, .bteAlpha, .bteDestWidth, .bteWidth, .bteHeight, .fgcR, .fgcG, .fgcB, .bteSetup, .bteCtrl]

/-- The width class R20 gives each named register. -/
def Reg.widthClass : Reg → WidthClass
  | .dispHeight | .tcurX | .tcurY | .bteDestX | .bteDestY | .bteDestWidth | .bteWidth | .bteHeight => .w16
  | .bteDestAddr => .w32
  | .sdramCtrl | .dispWidth | .dispCtrl | .textCtrl | .dataPort | .bteColr | .bteAlpha | .fgcR | .fgcG | .fgcB
  | .bteSetup | .bteCtrl => .w8

/-- The `REG_*` parameters: one 8-bit base address per named register (R5, R20). -/
structure RegMap where
  sdramCtrl : Byte
  dispWidth : Byte
  dispHeight : Byte
  dispCtrl : Byte
  textCtrl : Byte
  dataPort : Byte
  tcurX : Byte
  tcurY : Byte
  bteDestAddr : Byte
  bteDestX : Byte
  bteDestY : Byte
  bteColr : Byte
  bteAlpha : Byte
  bteDestWidth : Byte
  bteWidth : Byte
  bteHeight : Byte
  fgcR : Byte
  fgcG : Byte
  fgcB : Byte
  bteSetup : Byte
  bteCtrl : Byte
deriving DecidableEq, Repr, Inhabited

/-- The base address of a named register. -/
def RegMap.addr (m : RegMap) : Reg → Byte
  | .sdramCtrl => m.sdramCtrl
  | .dispWidth => m.dispWidth
  | .dispHeight => m.dispHeight
  | .dispCtrl => m.dispCtrl
  | .textCtrl => m.textCtrl
  | .dataPort => m.dataPort
  | .tcurX => m.tcurX
  | .tcurY => m.tcurY
  | .bteDestAddr => m.bteDestAddr
  | .bteDestX => m.bteDestX
  | .bteDestY => m.bteDestY
  | .bteColr => m.bteColr
  | .bteAlpha => m.bteAlpha
  | .bteDestWidth => m.bteDestWidth
  | .bteWidth => m.bteWidth
  | .bteHeight => m.bteHeight
  | .fgcR => m.fgcR
  | .fgcG => m.fgcG
  | .fgcB => m.fgcB
  | .bteSetup => m.bteSetup
  | .bteCtrl => m.bteCtrl

/-- Wire-level parameters (R5). No rule depends on `spiMode` or `sclkHz` (D2). -/
structure WireParams where
  ph : Byte
  spiMode : Fin 4
  sclkHz : Nat
deriving DecidableEq, Repr, Inhabited

/-- Status-byte parameters (R5, R22). A level is the value of the bit, `true` for 1. -/
structure StatusParams where
  busyMask : Byte
  busyLevel : Bool
  wfifoMask : Byte
  wfifoEmptyLevel : Bool
  readyMask : Byte
  readyLevel : Bool
deriving DecidableEq, Repr, Inhabited

/-- Parameters of the SDRAM initialisation (R5, R141, D14). -/
structure SdramParams where
  startVal : Byte
  doneMask : Byte
  doneLevel : Bool
  pollDelayMs : Nat
  writes : List RegWrite
deriving DecidableEq, Repr, Inhabited

/-- The `CFG_*` lists of the display configuration steps (R5, R142, D16). -/
structure StepLists where
  backPorch : List RegWrite
  frontPorch : List RegWrite
  mainImageWidth : List RegWrite
  activeWindow : List RegWrite
  canvasWidth : List RegWrite
  pixelFormat : List RegWrite
  syscfg : List RegWrite
  syncPolarity : List RegWrite
  displayCtrl : List RegWrite
deriving DecidableEq, Repr, Inhabited

/-- Display resolution and the toggle bits (R5, R21). -/
structure DisplayParams where
  width : Half
  height : Half
  onMask : Byte
  colorBarMask : Byte
  textModeMask : Byte
deriving DecidableEq, Repr, Inhabited

/-- One entry of `BTE_COLR_ENC`: the colour-depth byte of three codes (R5, D21). -/
structure ColrCode where
  s0 : Byte
  s1 : Byte
  d : Byte
  enc : Byte
deriving DecidableEq, Repr, Inhabited

/-- One entry of `BTE_SETUP_ENC`: the setup byte of a raster operation and a BTE opcode (R5, D21). -/
structure SetupCode where
  rop : Byte
  opc : Byte
  enc : Byte
deriving DecidableEq, Repr, Inhabited

/-- BTE parameters (R5, R21, D21, D22). The two packing functions are tables, so that the configuration is plain data
and their domain (R85, check `codes`) is the set of listed codes. -/
structure BteParams where
  enableMask : Byte
  busyMask : Byte
  busyLevel : Bool
  colrEnc : List ColrCode
  setupEnc : List SetupCode
  depth24 : Byte
  ropWhite : Byte
  opcSolidFill : Byte
  fillDestAddr : Word
  fillAlpha : Byte
deriving DecidableEq, Repr, Inhabited

/-- The configuration record of R5: every address, mask, level, value list and delay the spec leaves open. -/
structure Cfg where
  wire : WireParams
  status : StatusParams
  regs : RegMap
  sdram : SdramParams
  steps : StepLists
  display : DisplayParams
  bte : BteParams
deriving DecidableEq, Repr, Inhabited

/-- `BTE_COLR_ENC(s0, s1, d)`, or `none` outside its domain. -/
def BteParams.colr (p : BteParams) (s0 s1 d : Byte) : Option Byte :=
  (p.colrEnc.find? fun e => e.s0 == s0 && e.s1 == s1 && e.d == d).map ColrCode.enc

/-- `BTE_SETUP_ENC(rop, opc)`, or `none` outside its domain. -/
def BteParams.setup (p : BteParams) (rop opc : Byte) : Option Byte :=
  (p.setupEnc.find? fun e => e.rop == rop && e.opc == opc).map SetupCode.enc

/-! ### The environment's answers (R13, R29) -/

/-- What a transfer that failed leaves open: how many bytes of the frame went out (R100, U2) and the level of
chip-select afterwards (R212, U1). Both are draws of the environment. -/
structure LinkError where
  sent : Nat
  cs : Bool
deriving DecidableEq, Repr, Inhabited

/-- The answer of the link and the target to one frame: the bytes received, the first answering byte 0, and the error
(R13: `rx` and `err` are draws). -/
structure LinkAnswer where
  rx : List Byte
  err : Option LinkError
deriving DecidableEq, Repr, Inhabited

/-- FREE VALUE: the answer to the `n`-th frame since power-on where the state lists none (log entry 3). -/
opaque Config.freeAnswer : Nat → LinkAnswer

/-- FREE VALUE: byte `i` received in the `n`-th frame where the answer lists no such byte (log entry 3). -/
opaque Config.freeByte : Nat → Nat → Byte

/-! ### The example assignment `P_EX` -/

/-- `BTE_COLR_ENC` of `P_EX`: `(s0 << 5) | (s1 << 2) | d` for `s0`, `d` in 0..3 and `s1` in 0..7 (D13). -/
def Config.pExColrEnc : List ColrCode :=
  (List.range 4).flatMap fun s0 => (List.range 8).flatMap fun s1 => (List.range 4).map fun d =>
    { s0 := BitVec.ofNat 8 s0, s1 := BitVec.ofNat 8 s1, d := BitVec.ofNat 8 d,
      enc := BitVec.ofNat 8 (s0 * 32 + s1 * 4 + d) }

/-- `BTE_SETUP_ENC` of `P_EX`: `(rop << 4) | opc`, both in 0..15 (D13). -/
def Config.pExSetupEnc : List SetupCode :=
  (List.range 16).flatMap fun rop => (List.range 16).map fun opc =>
    { rop := BitVec.ofNat 8 rop, opc := BitVec.ofNat 8 opc, enc := BitVec.ofNat 8 (rop * 16 + opc) }

/-- `P_EX`: the example assignment of every open parameter (D13). It makes test vectors concrete; no rule and no
statement of this model depends on it. `spiMode` has no value in D13 and is open in D2: mode 0 is the model's own choice
(DESIGN CHOICE, log entry 1), and so is taking D2's example of 24 MHz for `sclkHz`, open there too. -/
def Config.pEx : Cfg where
  wire := { ph := 0x00#8, spiMode := 0, sclkHz := 24000000 }
  status := { busyMask := 0x08#8, busyLevel := true, wfifoMask := 0x40#8, wfifoEmptyLevel := true,
              readyMask := 0x02#8, readyLevel := false }
  regs :=
    { sdramCtrl := 0xE4#8, dispWidth := 0x14#8, dispHeight := 0x1A#8, dispCtrl := 0x12#8, textCtrl := 0x03#8,
      dataPort := 0x04#8, tcurX := 0x63#8, tcurY := 0x65#8, bteDestAddr := 0xA7#8, bteDestX := 0xAD#8,
      bteDestY := 0xAF#8, bteColr := 0x92#8, bteAlpha := 0xB5#8, bteDestWidth := 0xAB#8, bteWidth := 0xB1#8,
      bteHeight := 0xB3#8, fgcR := 0xD2#8, fgcG := 0xD3#8, fgcB := 0xD4#8, bteSetup := 0x91#8, bteCtrl := 0x90#8 }
  sdram :=
    { startVal := 0x01#8, doneMask := 0x01#8, doneLevel := true, pollDelayMs := 1,
      writes := [.w8 0xE0#8 0x29#8, .w8 0xE1#8 0x03#8, .w16 0xE2#8 0x061A#16] }
  steps :=
    { backPorch := [.w8 0x16#8 0x13#8]
      frontPorch := [.w8 0x18#8 0x13#8]
      mainImageWidth := [.w16 0x24#8 1024#16]
      activeWindow := [.w16 0x56#8 0#16, .w16 0x58#8 0#16, .w16 0x5A#8 1024#16, .w16 0x5C#8 600#16]
      canvasWidth := [.w16 0x54#8 1024#16]
      pixelFormat := [.w8 0x10#8 0x08#8]
      syscfg := [.w8 0x01#8 0x00#8]
      syncPolarity := [.w8 0x13#8 0xC0#8]
      displayCtrl := [.w8 0x12#8 0x00#8] }
  display := { width := 1024#16, height := 600#16, onMask := 0x40#8, colorBarMask := 0x20#8, textModeMask := 0x04#8 }
  bte :=
    { enableMask := 0x10#8, busyMask := 0x10#8, busyLevel := true, colrEnc := Config.pExColrEnc,
      setupEnc := Config.pExSetupEnc, depth24 := 2#8, ropWhite := 0xF#8, opcSolidFill := 0xC#8,
      fillDestAddr := 0#32, fillAlpha := 0#8 }

end Sys2Proof
end

