-- ==== Sys2Proof/Syntax.lean ====
section
/-! DEFINITION. The operations: one constructor for every row of spec/opcode_table.json, the five wire frame kinds
(R71, R74) and the forty-three host operations (R80). -/

namespace Sys2Proof

/-- Every row of the opcode table. The first five are the frames of the wire encoding, whose rules are R101 to R105;
the others are the operations a host presents (R80). One-bit operands are `Bool`. -/
inductive Instr where
  -- wire frames
  | frameCommandWrite (a : Byte)
  | frameStatusRead (p : Byte)
  | frameDataWrite (d : Byte)
  | frameDataRead (p : Byte)
  | frameDataBurst (ds : List Byte)
  -- transport
  | cmdw (a : Byte)
  | stsr
  | datw (d : Byte)
  | datr
  | datwb (ds : List Byte)
  -- register access
  | wr8 (a v : Byte)
  | wr16 (a : Byte) (v : Half)
  | wr32 (a : Byte) (v : Word)
  | rd8 (a : Byte)
  | pollr (a m : Byte) (t : Bool)
  | polls (m : Byte) (t : Bool)
  -- display controller
  | waitReady
  | initMem
  | initDisp
  | setDisplaySize (w h : Half)
  | setBackPorch
  | setFrontPorch
  | setMainImageWidth
  | setActiveWindow
  | setCanvasWidth
  | setPixelFormat
  | setSyscfg
  | setSyncPolarity
  | setDisplayCtrl
  | enableDisplay (e : Bool)
  | enableTestPattern (e : Bool)
  | enableTextMode (e : Bool)
  | writeText (txt : List Byte)
  | setTextCursorX (v : Half)
  | setTextCursorY (v : Half)
  | getTextCursorY
  -- BTE
  | bteDestAddr (v : Word)
  | bteDestPos (x y : Half)
  | bteColorDepth (s0 s1 d : Byte)
  | bteAlpha (v : Byte)
  | bteDestWidth (v : Half)
  | bteWidth (v : Half)
  | bteHeight (v : Half)
  | setFgColor (r g b : Byte)
  | bteSetup (rop opc : Byte)
  | bteStart
  | bteWait
  | fill (r g b : Byte)
deriving DecidableEq, Repr, Inhabited

/-- The rows of the wire encoding: frames the block puts on the link, which no host word denotes (R70, R80). -/
def Instr.isFrame : Instr → Bool
  | .frameCommandWrite _ | .frameStatusRead _ | .frameDataWrite _ | .frameDataRead _ | .frameDataBurst _ => true
  | _ => false

end Sys2Proof
end

