-- ==== Sys2Proof/WellFormed.lean ====
section
/-! DEFINITION. The well-formedness checks of R85, each by its name in the spec, and the invariants of a well-formed
configuration (R20, R85). -/

namespace Sys2Proof

/-- The named checks of R85. -/
inductive Check where
  /-- a `W16` access has a base address of at most `0xFE` (R46) -/
  | w16Base
  /-- a poll or toggle mask has exactly one bit set -/
  | oneBitMask
  /-- a burst has 1 to 255 payload bytes -/
  | burstLen
  /-- a display width is a multiple of 8 from 8 to 2048 -/
  | sizeWidth
  /-- a display height is at least 1 -/
  | sizeHeight
  /-- a text has at most 65535 bytes -/
  | textLen
  /-- the entries of a `CFG_*` list are well formed -/
  | cfgLists
  /-- BTE codes lie in the domain of their packing function -/
  | codes
deriving DecidableEq, Repr, Inhabited

namespace WellFormed

/-- Exactly one bit of the mask is set. -/
def oneBit (m : Byte) : Bool := m != 0#8 && (m &&& (m - 1#8)) == 0#8

/-- The base of a paired-byte access is at most `0xFE` (R46). -/
def pairBase (a : Byte) : Bool := a != 0xFF#8

/-- A `CFG_*` entry: the value fits its class by its type; a `W16` entry passes `w16_base`. -/
def entry : RegWrite → Bool
  | .w8 _ _ => true
  | .w16 a _ => pairBase a
  | .w32 _ _ => true

/-- Every entry of a `CFG_*` list is well formed. -/
def list (l : List RegWrite) : Bool := l.all entry

/-- The width range of `SET_DISPLAY_SIZE` (R85, `size_width`). -/
def width (w : Half) : Bool := w.toNat % 8 == 0 && 8 ≤ w.toNat && w.toNat ≤ 2048

/-- The height range of `SET_DISPLAY_SIZE` (R85, `size_height`); 16 bits give the upper bound. -/
def height (h : Half) : Bool := 1 ≤ h.toNat

/-- The name of a check where it fails, nothing where it holds. -/
def need (ok : Bool) (c : Check) : List Check := if ok then [] else [c]

/-- The checks an operation breaks, in R85's terms: those on its operands, and those on the parameters of `Cfg` its
expansion uses (`w16_base` applies to "every rule that performs a `W16` access", `one_bit_mask` to "every mask
parameter", `cfg_lists` to "every `CFG_*` list"). Which operations an ill-formed parameter makes ill formed, R85 leaves
open: here those whose frames or polls use it; `SET_DISPLAY_CTRL` and `INIT_DISP`, which use `DISPLAY_ON_MASK` and
`COLOR_BAR_MASK` for ghost state alone, run whatever those masks are (DESIGN CHOICE, log entry 11). -/
def broken (c : Cfg) : Instr → List Check
  | .frameCommandWrite _ | .frameStatusRead _ | .frameDataWrite _ | .frameDataRead _ => []
  | .frameDataBurst ds => need (1 ≤ ds.length && ds.length ≤ 255) .burstLen
  | .cmdw _ | .stsr | .datw _ | .datr => []
  | .datwb ds => need (1 ≤ ds.length && ds.length ≤ 255) .burstLen
  | .wr8 _ _ => []
  | .wr16 a _ => need (pairBase a) .w16Base
  | .wr32 _ _ | .rd8 _ => []
  | .pollr _ m _ => need (oneBit m) .oneBitMask
  | .polls m _ => need (oneBit m) .oneBitMask
  | .waitReady => need (oneBit c.status.readyMask) .oneBitMask
  | .initMem => need (list c.sdram.writes) .cfgLists ++ need (oneBit c.sdram.doneMask) .oneBitMask
  | .initDisp =>
      need (oneBit c.status.readyMask && oneBit c.sdram.doneMask) .oneBitMask ++
      need (width c.display.width) .sizeWidth ++ need (height c.display.height) .sizeHeight ++
      need (pairBase c.regs.dispHeight) .w16Base ++
      need (list c.sdram.writes && list c.steps.backPorch && list c.steps.frontPorch && list c.steps.mainImageWidth &&
        list c.steps.activeWindow && list c.steps.canvasWidth && list c.steps.pixelFormat && list c.steps.syscfg &&
        list c.steps.syncPolarity && list c.steps.displayCtrl) .cfgLists
  | .setDisplaySize w h =>
      need (width w) .sizeWidth ++ need (height h) .sizeHeight ++ need (pairBase c.regs.dispHeight) .w16Base
  | .setBackPorch => need (list c.steps.backPorch) .cfgLists
  | .setFrontPorch => need (list c.steps.frontPorch) .cfgLists
  | .setMainImageWidth => need (list c.steps.mainImageWidth) .cfgLists
  | .setActiveWindow => need (list c.steps.activeWindow) .cfgLists
  | .setCanvasWidth => need (list c.steps.canvasWidth) .cfgLists
  | .setPixelFormat => need (list c.steps.pixelFormat) .cfgLists
  | .setSyscfg => need (list c.steps.syscfg) .cfgLists
  | .setSyncPolarity => need (list c.steps.syncPolarity) .cfgLists
  | .setDisplayCtrl => need (list c.steps.displayCtrl) .cfgLists
  | .enableDisplay _ => need (oneBit c.display.onMask) .oneBitMask
  | .enableTestPattern _ => need (oneBit c.display.colorBarMask) .oneBitMask
  | .enableTextMode _ => need (oneBit c.display.textModeMask) .oneBitMask
  | .writeText txt =>
      need (txt.length ≤ 65535) .textLen ++ need (oneBit c.status.wfifoMask && oneBit c.status.busyMask) .oneBitMask
  | .setTextCursorX _ => need (pairBase c.regs.tcurX) .w16Base
  | .setTextCursorY _ => need (pairBase c.regs.tcurY) .w16Base
  | .getTextCursorY => need (pairBase c.regs.tcurY) .w16Base
  | .bteDestAddr _ => []
  | .bteDestPos _ _ => need (pairBase c.regs.bteDestX && pairBase c.regs.bteDestY) .w16Base
  | .bteColorDepth s0 s1 d => need (c.bte.colr s0 s1 d).isSome .codes
  | .bteAlpha _ => []
  | .bteDestWidth _ => need (pairBase c.regs.bteDestWidth) .w16Base
  | .bteWidth _ => need (pairBase c.regs.bteWidth) .w16Base
  | .bteHeight _ => need (pairBase c.regs.bteHeight) .w16Base
  | .setFgColor _ _ _ => []
  | .bteSetup rop opc => need (c.bte.setup rop opc).isSome .codes
  | .bteStart => need (oneBit c.bte.enableMask) .oneBitMask
  | .bteWait => need (oneBit c.bte.busyMask) .oneBitMask
  | .fill _ _ _ =>
      need (pairBase c.regs.bteDestX && pairBase c.regs.bteDestY && pairBase c.regs.bteDestWidth &&
        pairBase c.regs.bteWidth && pairBase c.regs.bteHeight) .w16Base ++
      need ((c.bte.colr c.bte.depth24 c.bte.depth24 c.bte.depth24).isSome &&
        (c.bte.setup c.bte.ropWhite c.bte.opcSolidFill).isSome) .codes ++
      need (oneBit c.bte.enableMask) .oneBitMask

/-- The first check an operation breaks, or nothing where it is well formed. -/
def check (c : Cfg) (i : Instr) : Option Check := (broken c i).head?

/-- The byte addresses a named register occupies (R20): one, a pair, or a group of four. -/
def occupied (m : RegMap) (r : Reg) : List Nat :=
  match r.widthClass with
  | .w8 => [(m.addr r).toNat]
  | .w16 => [(m.addr r).toNat, (m.addr r).toNat + 1]
  | .w32 => [(m.addr r).toNat, (m.addr r).toNat + 1, (m.addr r).toNat + 2, (m.addr r).toNat + 3]

/-- The one overlap R20 allows: the text-mode bit may live in another `W8` control register. -/
def mayShare (r q : Reg) : Bool :=
  (r == .textCtrl && (q == .sdramCtrl || q == .dispCtrl || q == .bteCtrl)) ||
  (q == .textCtrl && (r == .sdramCtrl || r == .dispCtrl || r == .bteCtrl))

/-- Distinct named registers do not overlap, but for the sharing R20 allows. -/
def noOverlap (m : RegMap) : Bool :=
  Reg.all.all fun r => Reg.all.all fun q =>
    r == q || mayShare r q || (occupied m r).all fun x => !(occupied m q).contains x

/-- An entry of `CFG_DISPLAY_CTRL` is an 8-bit write of `REG_DISP_CTRL` (R153). -/
def writesDispCtrl (m : RegMap) : RegWrite → Bool
  | .w8 a _ => a == m.dispCtrl
  | _ => false

/-- The invariants of a well-formed configuration (R5, R20, R85, R144, R153). -/
def cfg (c : Cfg) : Bool :=
  (Reg.all.all fun r => r.widthClass != .w16 || pairBase (c.regs.addr r)) && noOverlap c.regs &&
  oneBit c.status.busyMask && oneBit c.status.wfifoMask && oneBit c.status.readyMask && oneBit c.sdram.doneMask &&
  oneBit c.display.onMask && oneBit c.display.colorBarMask && oneBit c.display.textModeMask &&
  oneBit c.bte.enableMask && oneBit c.bte.busyMask && 1 ≤ c.sdram.pollDelayMs &&
  list c.sdram.writes && list c.steps.backPorch && list c.steps.frontPorch && list c.steps.mainImageWidth &&
  list c.steps.activeWindow && list c.steps.canvasWidth && list c.steps.pixelFormat && list c.steps.syscfg &&
  list c.steps.syncPolarity && list c.steps.displayCtrl && c.steps.displayCtrl.all (writesDispCtrl c.regs) &&
  width c.display.width && height c.display.height &&
  (c.bte.colr c.bte.depth24 c.bte.depth24 c.bte.depth24).isSome &&
  (c.bte.setup c.bte.ropWhite c.bte.opcSolidFill).isSome

end WellFormed

end Sys2Proof
end

