-- ==== Sys2Proof/Machine/Operands.lean ====
section
/-! DEFINITION. Operand assembly (R76): how the bytes of a frame are made from an operation's operands, and how bytes
received or presented are put together again. -/

namespace Sys2Proof.Operands

/-- The low byte `v[7:0]` of a 16-bit value. -/
def lo8 (v : Half) : Byte := v.extractLsb' 0 8

/-- The high byte `v[15:8]` of a 16-bit value. -/
def hi8 (v : Half) : Byte := v.extractLsb' 8 8

/-- The 16-bit value `(hi << 8) | lo` (R126). -/
def half (hi lo : Byte) : Half := hi ++ lo

/-- The four bytes of a 32-bit value, most significant first: `v[31:24], v[23:16], v[15:8], v[7:0]` (R43, R122). -/
def be32 (v : Word) : List Byte :=
  [v.extractLsb' 24 8, v.extractLsb' 16 8, v.extractLsb' 8 8, v.extractLsb' 0 8]

/-- The two bytes of a 16-bit value, most significant first, as the host word has them (R81). -/
def be16 (v : Half) : List Byte := [hi8 v, lo8 v]

/-- The 32-bit value `{b3, b2, b1, b0}` with `b3` in bits 31:24 (R6). -/
def word (b3 b2 b1 b0 : Byte) : Word := b3 ++ b2 ++ b1 ++ b0

/-- The byte of a one-bit operand: the bit in the least significant place, the other seven 0 (R81). -/
def flagByte (e : Bool) : Byte := if e then 0x01#8 else 0x00#8

/-- The address of the high byte of a paired-byte register; `a ≤ 0xFE` by the check `w16_base` (R42, R46). -/
def pairHigh (a : Byte) : Byte := a + 1#8

/-- The byte a read-modify-write puts back: bit `m` of `r` set or cleared, every other bit as read (R127, R76). -/
def rmw (r m : Byte) (e : Bool) : Byte := if e then r ||| m else r &&& ~~~m

/-- The width register byte `(w / 8) - 1` (R144, R154). -/
def widthByte (w : Half) : Byte := BitVec.ofNat 8 (w.toNat / 8 - 1)

/-- The height pair value `h - 1` (R144, R154). -/
def heightValue (h : Half) : Half := BitVec.ofNat 16 (h.toNat - 1)

/-- The consecutive 16-byte pieces of a text, the last of 1 to 16 bytes (R76, R159); `n` bounds the recursion. -/
def chunksUpTo : Nat → List Byte → List (List Byte)
  | 0, _ => []
  | _ + 1, [] => []
  | n + 1, b :: bs => (b :: bs).take textChunkMax :: chunksUpTo n ((b :: bs).drop textChunkMax)

/-- The chunks of a text: `ceil(L / 16)` of them, none for the empty text (R159). -/
def chunks (txt : List Byte) : List (List Byte) := chunksUpTo txt.length txt

/-- The value the last `W8` entry of a list writes to register `a`, if one does (R153). -/
def lastWrite (a : Byte) : List RegWrite → Option Byte
  | [] => none
  | .w8 r v :: l => (lastWrite a l).or (if r == a then some v else none)
  | .w16 _ _ :: l => lastWrite a l
  | .w32 _ _ :: l => lastWrite a l

end Sys2Proof.Operands
end

