-- ==== Sys2Proof/Decode.lean ====
section
/-! DEFINITION. The two encodings: the host command word (R81), read from and written to a list of bytes, and the
wire frames (R71, R74, R75). Decoding is total and rejects by name (R78); the encoders stand after the decoders. -/

namespace Sys2Proof

open Operands

/-- Why bytes are no operation (R78). -/
inductive DecodeError where
  /-- the bytes end before the operation's last operand byte -/
  | truncated
  /-- an opcode byte R81 does not list -/
  | reservedOpcode (op : Byte)
  /-- a flag byte whose upper seven bits are not 0 -/
  | flagByte (b : Byte)
deriving DecidableEq, Repr, Inhabited

/-- What the host decoder reads: an operation and the bytes after it, or a rejection by name. -/
inductive DecodeResult where
  | done (i : Instr) (rest : List Byte)
  | rejected (e : DecodeError)
deriving DecidableEq, Repr, Inhabited

namespace Decode

/-- Read an 8-bit operand. -/
def with8 (bs : List Byte) (k : Byte → List Byte → DecodeResult) : DecodeResult :=
  match bs with
  | b :: r => k b r
  | [] => .rejected .truncated

/-- Read a 16-bit operand, most significant byte first (R81). -/
def with16 (bs : List Byte) (k : Half → List Byte → DecodeResult) : DecodeResult :=
  match bs with
  | h :: l :: r => k (half h l) r
  | _ => .rejected .truncated

/-- Read a 32-bit operand, most significant byte first (R81). -/
def with32 (bs : List Byte) (k : Word → List Byte → DecodeResult) : DecodeResult :=
  match bs with
  | b3 :: b2 :: b1 :: b0 :: r => k (word b3 b2 b1 b0) r
  | _ => .rejected .truncated

/-- Read a one-bit operand: the other seven bits of its byte must be 0 (R81). -/
def withFlag (bs : List Byte) (k : Bool → List Byte → DecodeResult) : DecodeResult :=
  with8 bs fun b r => if b = 0x00#8 then k false r else if b = 0x01#8 then k true r else .rejected (.flagByte b)

/-- The first `n` bytes and the bytes after them, or nothing where there are fewer. -/
def splitBytes : Nat → List Byte → Option (List Byte × List Byte)
  | 0, bs => some ([], bs)
  | _ + 1, [] => none
  | n + 1, b :: bs => (splitBytes n bs).map fun p => (b :: p.1, p.2)

/-- Read a byte list of `n` bytes. -/
def withBytes (n : Nat) (bs : List Byte) (k : List Byte → List Byte → DecodeResult) : DecodeResult :=
  match splitBytes n bs with
  | some p => k p.1 p.2
  | none => .rejected .truncated

/-- The operands after an opcode byte, by R81's table. -/
def operands (op : Byte) (bs : List Byte) : DecodeResult :=
  match op.toNat with
  | 0x00 => with8 bs fun a r => .done (.cmdw a) r
  | 0x40 => .done .stsr bs
  | 0x80 => with8 bs fun d r => .done (.datw d) r
  | 0xC0 => .done .datr bs
  | 0x81 => with8 bs fun n r => withBytes n.toNat r fun ds r => .done (.datwb ds) r
  | 0x10 => with8 bs fun a r => with8 r fun v r => .done (.wr8 a v) r
  | 0x11 => with8 bs fun a r => with16 r fun v r => .done (.wr16 a v) r
  | 0x12 => with8 bs fun a r => with32 r fun v r => .done (.wr32 a v) r
  | 0x13 => with8 bs fun a r => .done (.rd8 a) r
  | 0x14 => with8 bs fun a r => with8 r fun m r => withFlag r fun t r => .done (.pollr a m t) r
  | 0x15 => with8 bs fun m r => withFlag r fun t r => .done (.polls m t) r
  | 0x20 => .done .waitReady bs
  | 0x21 => .done .initMem bs
  | 0x22 => .done .initDisp bs
  | 0x23 => with16 bs fun w r => with16 r fun h r => .done (.setDisplaySize w h) r
  | 0x24 => .done .setBackPorch bs
  | 0x25 => .done .setFrontPorch bs
  | 0x26 => .done .setMainImageWidth bs
  | 0x27 => .done .setActiveWindow bs
  | 0x28 => .done .setCanvasWidth bs
  | 0x29 => .done .setPixelFormat bs
  | 0x2A => .done .setSyscfg bs
  | 0x2B => .done .setSyncPolarity bs
  | 0x2C => .done .setDisplayCtrl bs
  | 0x30 => withFlag bs fun e r => .done (.enableDisplay e) r
  | 0x31 => withFlag bs fun e r => .done (.enableTestPattern e) r
  | 0x32 => withFlag bs fun e r => .done (.enableTextMode e) r
  | 0x33 => with16 bs fun n r => withBytes n.toNat r fun txt r => .done (.writeText txt) r
  | 0x34 => with16 bs fun v r => .done (.setTextCursorX v) r
  | 0x35 => with16 bs fun v r => .done (.setTextCursorY v) r
  | 0x36 => .done .getTextCursorY bs
  | 0x50 => with32 bs fun v r => .done (.bteDestAddr v) r
  | 0x51 => with16 bs fun x r => with16 r fun y r => .done (.bteDestPos x y) r
  | 0x52 => with8 bs fun s0 r => with8 r fun s1 r => with8 r fun d r => .done (.bteColorDepth s0 s1 d) r
  | 0x53 => with8 bs fun v r => .done (.bteAlpha v) r
  | 0x54 => with16 bs fun v r => .done (.bteDestWidth v) r
  | 0x55 => with16 bs fun v r => .done (.bteWidth v) r
  | 0x56 => with16 bs fun v r => .done (.bteHeight v) r
  | 0x57 => with8 bs fun cr r => with8 r fun cg r => with8 r fun cb r => .done (.setFgColor cr cg cb) r
  | 0x58 => with8 bs fun rop r => with8 r fun opc r => .done (.bteSetup rop opc) r
  | 0x59 => .done .bteStart bs
  | 0x5A => .done .bteWait bs
  | 0x5B => with8 bs fun cr r => with8 r fun cg r => with8 r fun cb r => .done (.fill cr cg cb) r
  | _ => .rejected (.reservedOpcode op)

end Decode

/-- Decode the host operation at the head of a byte stream (R81); every other opcode byte is refused (R78). -/
def decode (bs : List Byte) : DecodeResult :=
  match bs with
  | [] => .rejected .truncated
  | op :: r => Decode.operands op r

/-- Decode the bytes sent in one frame, as a bus monitor does (R75): the mode byte gives the kind, the release of
chip-select the length. A 2-byte frame with mode `0x80` is a data write, which a burst of one byte equals (R74). -/
def decodeFrame (tx : List Byte) : Option Instr :=
  match tx with
  | [m, b] =>
      if m = modeCmdw then some (.frameCommandWrite b)
      else if m = modeStsr then some (.frameStatusRead b)
      else if m = modeDatw then some (.frameDataWrite b)
      else if m = modeDatr then some (.frameDataRead b)
      else none
  | m :: b0 :: b1 :: bs => if m = modeDatw then some (.frameDataBurst (b0 :: b1 :: bs)) else none
  | _ => none

/-- The bytes of an operation: its host command word (R81), or the bytes sent in its frame (R71, R74). The length
fields hold the length of a well-formed list. -/
def encode : Instr → List Byte
  | .frameCommandWrite a => [modeCmdw, a]
  | .frameStatusRead p => [modeStsr, p]
  | .frameDataWrite d => [modeDatw, d]
  | .frameDataRead p => [modeDatr, p]
  | .frameDataBurst ds => modeDatw :: ds
  | .cmdw a => [0x00#8, a]
  | .stsr => [0x40#8]
  | .datw d => [0x80#8, d]
  | .datr => [0xC0#8]
  | .datwb ds => 0x81#8 :: BitVec.ofNat 8 ds.length :: ds
  | .wr8 a v => [0x10#8, a, v]
  | .wr16 a v => 0x11#8 :: a :: be16 v
  | .wr32 a v => 0x12#8 :: a :: be32 v
  | .rd8 a => [0x13#8, a]
  | .pollr a m t => [0x14#8, a, m, flagByte t]
  | .polls m t => [0x15#8, m, flagByte t]
  | .waitReady => [0x20#8]
  | .initMem => [0x21#8]
  | .initDisp => [0x22#8]
  | .setDisplaySize w h => 0x23#8 :: (be16 w ++ be16 h)
  | .setBackPorch => [0x24#8]
  | .setFrontPorch => [0x25#8]
  | .setMainImageWidth => [0x26#8]
  | .setActiveWindow => [0x27#8]
  | .setCanvasWidth => [0x28#8]
  | .setPixelFormat => [0x29#8]
  | .setSyscfg => [0x2A#8]
  | .setSyncPolarity => [0x2B#8]
  | .setDisplayCtrl => [0x2C#8]
  | .enableDisplay e => [0x30#8, flagByte e]
  | .enableTestPattern e => [0x31#8, flagByte e]
  | .enableTextMode e => [0x32#8, flagByte e]
  | .writeText txt => 0x33#8 :: (be16 (BitVec.ofNat 16 txt.length) ++ txt)
  | .setTextCursorX v => 0x34#8 :: be16 v
  | .setTextCursorY v => 0x35#8 :: be16 v
  | .getTextCursorY => [0x36#8]
  | .bteDestAddr v => 0x50#8 :: be32 v
  | .bteDestPos x y => 0x51#8 :: (be16 x ++ be16 y)
  | .bteColorDepth s0 s1 d => [0x52#8, s0, s1, d]
  | .bteAlpha v => [0x53#8, v]
  | .bteDestWidth v => 0x54#8 :: be16 v
  | .bteWidth v => 0x55#8 :: be16 v
  | .bteHeight v => 0x56#8 :: be16 v
  | .setFgColor r g b => [0x57#8, r, g, b]
  | .bteSetup rop opc => [0x58#8, rop, opc]
  | .bteStart => [0x59#8]
  | .bteWait => [0x5A#8]
  | .fill r g b => [0x5B#8, r, g, b]

/-! ### The opcode table's numbering -/

/-- The bytes of a table word: byte `k` is bits `8k+7 .. 8k`, the first byte the least significant. -/
def tableBytes (nbits w : Nat) : List Byte :=
  (List.range (nbits / 8)).map fun k => BitVec.ofNat 8 (w >>> (8 * k))

/-- The zero bytes above the bits the table gives: enough for the longest operation, a text of 65535 bytes. -/
def operandZeros : List Byte := List.replicate 65538 0x00#8

/-- The instruction the decoders read from a table word: the host decoder first; a word that is longer than the host
operation its first byte names, or names none, is read as a frame (log entry 7). -/
def decodeTableWord (nbits w : Nat) : Option Instr :=
  let bs := tableBytes nbits w
  match decode (bs ++ operandZeros) with
  | .done i _ => if (encode i).length < bs.length then decodeFrame bs else some i
  | .rejected _ => decodeFrame bs

end Sys2Proof
end

