-- ==== Sys2Proof/Machine/State.lean ====
section
/-! DEFINITION. The block's state (R10 to R18), the ports the outside world drives (R8, R12, R13, R240), the reasons
a step can stop, and the state after reset (R240). -/

namespace Sys2Proof.Machine

open Sys2Proof

/-- An event of the bus trace (R18). -/
inductive Event where
  | csLow
  | xfer (tx rx : Byte)
  | csHigh
  | delay (ms : Nat)
  | faulted
deriving DecidableEq, Repr, Inhabited

/-- `FAULT_INFO`: the latched operation and the index of the failing frame within its expansion (R17, R211). -/
structure FaultInfo where
  op : Instr
  seq : Nat
deriving DecidableEq, Repr, Inhabited

/-- The completion record handed back to the host (R12, R82). -/
inductive Result where
  | ok
  | okByte (v : Byte)
  | okHalf (v : Half)
  | fault (info : FaultInfo)
deriving DecidableEq, Repr, Inhabited

/-- Ghost: the BTE driver's state machine (R16). -/
inductive BtePhase where
  | idle | configuring | setUp | started
deriving DecidableEq, Repr, Inhabited

/-- Ghost: the display controller's life cycle (R16). -/
inductive Lifecycle where
  | uninitialized | sdramInitializing | configured
deriving DecidableEq, Repr, Inhabited

/-- Ghost: what is known of a toggle (R16). -/
inductive Toggle where
  | unknown | off | on
deriving DecidableEq, Repr, Inhabited

/-- The state of the block: R10's tuple, its ghost elements, and beside them the configuration (R5) and what the
outside world has lined up at the block's ports, as plain data: host bytes not yet read (R12, R81), readings of the
reset input (R240), steps of the timer (R222), and the answers of the link to frames not yet sent (R13, R29). -/
structure State where
  /-- `CS`: chip-select, `true` for 1 (released, high) (R11) -/
  cs : Bool
  /-- `OPV`: an operation is latched and not yet complete (R12) -/
  opv : Bool
  /-- `OP`: the latched operation (R12) -/
  op : Instr
  /-- `seq`: position in the operation's expansion (R15) -/
  seq : Nat
  /-- `RX`: the result byte of the last completed read frame (R14) -/
  rx : Byte
  /-- `TMP`: the byte held between two accesses of one operation (R14) -/
  tmp : Byte
  /-- `FAULT`: a transport fault was raised since reset (R17) -/
  fault : Bool
  /-- `FAULT_INFO` (R17) -/
  faultInfo : FaultInfo
  /-- `RESULT` (R12, R82) -/
  result : Result
  /-- `trace`: the bus events since reset, oldest first (R18) -/
  trace : List Event
  /-- ghost `bte_phase` (R16) -/
  btePhase : BtePhase
  /-- ghost `lifecycle` (R16) -/
  lifecycle : Lifecycle
  /-- ghost `disp_on` (R16) -/
  dispOn : Toggle
  /-- ghost `test_on` (R16) -/
  testOn : Toggle
  /-- ghost `text_on` (R16) -/
  textOn : Toggle
  /-- timer port: the delay the block has requested and the timer has not yet ended, in milliseconds (R19, R222) -/
  timer : Option Nat
  /-- the configuration record of R5; no step changes it -/
  cfg : Cfg
  /-- host port: command bytes the host has lined up, next one first (R12, R81) -/
  hostIn : List Byte
  /-- reset input: its readings at the coming steps, next one first; inactive past the end (R240) -/
  resetIn : List Bool
  /-- timer port: whether the timer ends the pending delay at its coming steps, next one first; past the end it does
  (R222, log entry 6) -/
  timerIn : List Bool
  /-- bus port: the answers to the coming frames, next one first (R13, R29) -/
  link : List LinkAnswer
  /-- model's own: frames sent since power-on, the index of the free answers (log entry 3) -/
  draws : Nat
deriving DecidableEq, Repr, Inhabited

/-- Why the machine stops. -/
inductive Fault where
  /-- Raised by `step` while `FAULT = 1` and no reading of the reset input is left: no step exists, the host must reset
  (R17, R217, U12). Safe: the model stops where DOC might let the host go on. -/
  | faultLatched
  /-- Raised by a frame whose precondition `CS = 1` fails (R100, `require`). No run reaches it (invariant of R11).
  Safe. -/
  | frameNeedsCsHigh
deriving DecidableEq, Repr, Inhabited

/-- Why an instruction is not run. -/
inductive Refusal where
  /-- Raised by an arm of `exec` that has no meaning yet. Safe. -/
  | notModelled (mnemonic : String)
  /-- Raised by every meaning for an operation that breaks the named check of R85: it is not an operation and gets no
  step (R78). Safe. -/
  | illFormed (check : Check)
  /-- Raised by `step` where the host's bytes are no operation (R78, R81). Safe. -/
  | notAnOperation (why : DecodeError)
deriving DecidableEq, Repr, Inhabited

/-- The state after reset with configuration `c` and nothing lined up at the ports (R240). `OP`, `RESULT`, `RX`,
`TMP` and `FAULT_INFO` have no reset value in the spec; the values here are the model's (log entry 2). -/
def State.resetWith (c : Cfg) : State where
  cs := true
  opv := false
  op := .cmdw 0x00#8
  seq := 0
  rx := 0x00#8
  tmp := 0x00#8
  fault := false
  faultInfo := { op := .cmdw 0x00#8, seq := 0 }
  result := .ok
  trace := []
  btePhase := .idle
  lifecycle := .uninitialized
  dispOn := .unknown
  testOn := .unknown
  textOn := .unknown
  timer := none
  cfg := c
  hostIn := []
  resetIn := []
  timerIn := []
  link := []
  draws := 0

/-- The machine right after reset (R240), with the example configuration (log entry 1). -/
def State.reset : State := State.resetWith Config.pEx

end Sys2Proof.Machine
end

