-- ==== Sys2Proof/Machine/Flags.lean ====
section
/-! DEFINITION. The tests and the bookkeeping: the poll test (R124, R125), the ghost transitions (R248). The block's
only flag, `FAULT` (R17), is written by taking an exception (Machine/Ops.lean). -/

namespace Sys2Proof.Machine

open Sys2Proof

/-- The poll test `((v & m) != 0) = (t = 1)` (R124, D6). -/
def pollHit (v m : Byte) (t : Bool) : Bool := ((v &&& m) != 0x00#8) == t

/-- What is known of a toggle after writing its bit (R248). -/
def Toggle.ofBit (e : Bool) : Toggle := if e then .on else .off

/-- `bte_phase` after a field writer: `Configuring`, unless the engine was started (R180, R248). -/
def BtePhase.afterField : BtePhase → BtePhase
  | .idle => .configuring
  | .configuring => .configuring
  | .setUp => .configuring
  | .started => .started

/-- `bte_phase` after `BTE_SETUP`: `SetUp`, unless the engine was started (R188, C12). -/
def BtePhase.afterSetup : BtePhase → BtePhase
  | .idle => .setUp
  | .configuring => .setUp
  | .setUp => .setUp
  | .started => .started

/-- A ghost-state update of an operation's expansion (R248). -/
inductive Mark where
  | sdramInitializing
  | configured
  | dispOn (e : Bool)
  | testOn (e : Bool)
  | textOn (e : Bool)
  | dispCtrl (v : Byte)
  | bteField
  | bteSetup
  | bteStart
  | bteWait
deriving DecidableEq, Repr, Inhabited

/-- Carry out a ghost update (R141, R143, R153, R156 to R158, R180, R188 to R190, R248). -/
def applyMark (s : State) : Mark → State
  | .sdramInitializing => { s with lifecycle := .sdramInitializing }
  | .configured => { s with lifecycle := .configured }
  | .dispOn e => { s with dispOn := .ofBit e }
  | .testOn e => { s with testOn := .ofBit e }
  | .textOn e => { s with textOn := .ofBit e }
  | .dispCtrl v =>
      { s with dispOn := .ofBit (pollHit v s.cfg.display.onMask true),
               testOn := .ofBit (pollHit v s.cfg.display.colorBarMask true) }
  | .bteField => { s with btePhase := s.btePhase.afterField }
  | .bteSetup => { s with btePhase := s.btePhase.afterSetup }
  | .bteStart => { s with btePhase := .started }
  | .bteWait => { s with btePhase := .idle }

/-- Carry out ghost updates in order. -/
def applyMarks (ms : List Mark) (s : State) : State := ms.foldl applyMark s

end Sys2Proof.Machine
end

