-- ==== Sys2Proof/Machine/Ops.lean ====
section
/-! DEFINITION. The shared operations: one frame (R100), taking the transport fault (R212) and leaving it by reset
(R217, R240), the actions and loop exits operations expand into (R84), the delay and the timer (R222), and one step of an expansion
(R15). -/

namespace Sys2Proof.Machine

open Sys2Proof Operands

/-! ### The bus port (R13) -/

/-- The link's answer to the next frame: the next one lined up, or a free one (R29, log entry 3). -/
def State.answer (s : State) : LinkAnswer := s.link.headD (Config.freeAnswer s.draws)

/-- Byte `i` received in the next frame: as the answer lists it, or a free one. -/
def State.rxByte (s : State) (i : Nat) : Byte := s.answer.rx[i]?.getD (Config.freeByte s.draws i)

/-- The next answer is used up. -/
def State.consume (s : State) : State := { s with link := s.link.tail, draws := s.draws + 1 }

/-- Append events to the trace (R7, `emit`). -/
def State.emit (s : State) (es : List Event) : State := { s with trace := s.trace ++ es }

/-- The `Xfer` events of the bytes from position `i` of a frame, each with the byte received beside it (R18, R100). -/
def xfersFrom (s : State) (i : Nat) : List Byte → List Event
  | [] => []
  | b :: bs => .xfer b (s.rxByte i) :: xfersFrom s (i + 1) bs

/-! ### Taking the one exception, and the way out of it -/

/-- Fault entry (R212): `Faulted` is emitted, `FAULT`, `FAULT_INFO` and `RESULT` record the operation and the failing
frame, the operation is over, and chip-select is left at a drawn level. Everything else keeps its value. -/
def raiseTransportFault (csAfter : Bool) (s : State) : State :=
  { s with
    trace := s.trace ++ [.faulted]
    fault := true
    faultInfo := { op := s.op, seq := s.seq }
    result := .fault { op := s.op, seq := s.seq }
    opv := false
    cs := csAfter }

/-- Reset of the block (R240), the only way out of a fault (R217): the block's state is the reset state; what the
outside world has lined up at the ports, and the configuration, are not the block's to change (R241, log entry 8). -/
def resetBlock (s : State) : State :=
  { State.resetWith s.cfg with
    hostIn := s.hostIn
    resetIn := s.resetIn
    timerIn := s.timerIn
    link := s.link
    draws := s.draws }

/-! ### One frame (R100) -/

/-- A frame whose transfer succeeds: the whole window is in the trace and chip-select is released. -/
def frameSent (tx : List Byte) (s : State) : State :=
  { (s.consume.emit (.csLow :: xfersFrom s 0 tx ++ [.csHigh])) with cs := true }

/-- A frame whose transfer fails: a drawn number of its bytes went out, then the fault is taken. -/
def frameFailed (e : LinkError) (tx : List Byte) (s : State) : State :=
  raiseTransportFault e.cs { (s.consume.emit (.csLow :: (xfersFrom s 0 tx).take e.sent)) with cs := false }

/-- One chip-select window: on success the state goes on as `ok` says, on an error the fault is taken (R100, R216). -/
def frame (tx : List Byte) (ok : State → State) (s : State) : State :=
  match s.answer.err with
  | none => ok (frameSent tx s)
  | some e => frameFailed e tx s

/-! ### Expansions (R84) -/

/-- What one position of an expansion does: a transport operation (R101 to R105). -/
inductive Act where
  /-- `CMDW a` -/
  | cmdw (a : Byte)
  /-- `DATW d` -/
  | datw (d : Byte)
  /-- `DATW` of the byte in `TMP` with bit `m` set or cleared, the write of a read-modify-write (R127) -/
  | datwRmw (m : Byte) (e : Bool)
  /-- `DATWB ds` -/
  | datwb (ds : List Byte)
  /-- `DATR`, with the placeholder byte it sends -/
  | datr (ph : Byte)
  /-- `STSR`, with the placeholder byte it sends -/
  | stsr (ph : Byte)
deriving DecidableEq, Repr, Inhabited

/-- Where `seq` goes after a position completes. -/
inductive Move where
  /-- on to the position `n` further -/
  | fwd (n : Nat)
  /-- back to the position `n` before: a loop that starts again -/
  | back (n : Nat)
  /-- on by one, where a delay of `ms` milliseconds is due; when it has ended, back to the position `n` before (R141) -/
  | wait (ms n : Nat)
deriving DecidableEq, Repr, Inhabited

/-- What follows a position: a fixed move, or a poll's test of the byte just read with a move for each outcome. -/
inductive Ctl where
  | go (m : Move)
  | poll (mask : Byte) (t : Bool) (hit miss : Move)
deriving DecidableEq, Repr, Inhabited

/-- One position of an expansion. `save` copies the byte read to `TMP` (R126, R127). -/
structure Micro where
  act : Act
  save : Bool := false
  ctl : Ctl := .go (.fwd 1)
deriving DecidableEq, Repr, Inhabited

/-- A line of an expansion: a position, counted by `seq`, or a ghost update, which is not. -/
inductive Item where
  | micro (m : Micro)
  | mark (g : Mark)
deriving DecidableEq, Repr, Inhabited

/-- An expansion: the lines of an operation's rule in order. -/
abbrev Prog := List Item

/-- The position with index `k`, if the expansion has one. -/
def Prog.pos : Prog → Nat → Option Micro
  | [], _ => none
  | .mark _ :: p, k => Prog.pos p k
  | .micro m :: _, 0 => some m
  | .micro _ :: p, k + 1 => Prog.pos p k

/-- The ghost updates that stand right before position `k`. -/
def Prog.marks : Prog → Nat → List Mark
  | [], _ => []
  | .mark g :: p, 0 => g :: Prog.marks p 0
  | .mark _ :: p, k + 1 => Prog.marks p (k + 1)
  | .micro _ :: _, 0 => []
  | .micro _ :: p, k + 1 => Prog.marks p k

/-- The number of positions. -/
def Prog.size : Prog → Nat
  | [] => 0
  | .mark _ :: p => Prog.size p
  | .micro _ :: p => Prog.size p + 1

/-- The bytes a position sends. -/
def Act.tx (s : State) : Act → List Byte
  | .cmdw a => [modeCmdw, a]
  | .datw d => [modeDatw, d]
  | .datwRmw m e => [modeDatw, rmw s.tmp m e]
  | .datwb ds => modeDatw :: ds
  | .datr ph => [modeDatr, ph]
  | .stsr ph => [modeStsr, ph]

/-- The positions that read: their response byte 1 is the result (R73, R103, R104). -/
def Act.reads : Act → Bool
  | .datr _ | .stsr _ => true
  | .cmdw _ | .datw _ | .datwRmw _ _ | .datwb _ => false

/-- The operation is complete: `OPV` is cleared and `RESULT` written (R12, R82). -/
def complete (res : State → Result) (s : State) : State := { s with opv := false, result := res s }

/-- `seq` goes forward to `k`: the ghost updates that stand there happen, and past the last position the operation
completes. -/
def arrive (p : Prog) (res : State → Result) (k : Nat) (s : State) : State :=
  let t := applyMarks (p.marks k) { s with seq := k }
  match p.pos k with
  | some _ => t
  | none => complete res t

/-- Carry out a move of `seq`; a loop goes on without passing a ghost update. -/
def move (p : Prog) (res : State → Result) (m : Move) (s : State) : State :=
  match m with
  | .fwd n => arrive p res (s.seq + n) s
  | .back n => { s with seq := s.seq - n }
  | .wait _ _ => { s with seq := s.seq + 1 }

/-- What follows a completed position. -/
def follow (p : Prog) (res : State → Result) (c : Ctl) (s : State) : State :=
  match c with
  | .go m => move p res m s
  | .poll mask t hit miss => move p res (if pollHit s.rx mask t then hit else miss) s

/-- The result byte of a read frame goes to `RX` (R103, R104), and to `TMP` where the rule keeps it there. `b` is the
byte received at position 1 of the response. -/
def store (m : Micro) (b : Byte) (s : State) : State :=
  { s with rx := if m.act.reads then b else s.rx, tmp := if m.save then b else s.tmp }

/-- A frame position: the frame, the byte it read, what follows. -/
def runFrame (p : Prog) (res : State → Result) (m : Micro) (s : State) : State :=
  frame (m.act.tx s) (fun u => follow p res m.ctl (store m (s.rxByte 1) u)) s

/-- Carry out one position. A frame needs `CS = 1` (R100, `require`). -/
def runMicro (p : Prog) (res : State → Result) (m : Micro) (s : State) : Host.Outcome State Fault Refusal :=
  if s.cs then .next (runFrame p res m s) else .fault .frameNeedsCsHigh

/-- The delay that is due at `seq`, with how far `seq` goes back after it: the position before polled for a bit, the
byte it read, still in `RX`, fails the test, and the loop delays between attempts (R141). -/
def Prog.due (p : Prog) (s : State) : Option (Nat × Nat) :=
  match s.seq with
  | 0 => none
  | k + 1 =>
    match (p.pos k).map Micro.ctl with
    | some (.poll mask t _ (.wait ms n)) => if pollHit s.rx mask t then none else some (ms, n)
    | _ => none

/-- A step of the block: it requests a delay of the timer; `seq` is held (R19, R222). -/
def requestDelay (ms : Nat) (s : State) : State := { s.emit [.delay ms] with timer := some ms }

/-- The delay has ended and counts as completed; the loop starts again, `n` positions before (R15, R141). -/
def delayEnded (n : Nat) (s : State) : State := { s with timer := none, seq := s.seq - n }

/-- A step of the timer, not of the block (R8, R222): it ends the pending delay, or lets it go on for a step. -/
def timerStep (n : Nat) (s : State) : State :=
  match s.timerIn with
  | [] => delayEnded n s
  | true :: r => delayEnded n { s with timerIn := r }
  | false :: r => { s with timerIn := r }

/-- A step while a delay is due: the block requests it; while the request is pending the timer moves. -/
def delayStep (ms n : Nat) (s : State) : State :=
  match s.timer with
  | none => requestDelay ms s
  | some _ => timerStep n s

/-- The ghost updates before the first position happen when the operation starts. -/
def startOp (p : Prog) (s : State) : State := if s.seq = 0 then applyMarks (p.marks 0) s else s

/-- One step of operation `i` with expansion `p` (R15): refused where `i` is not well formed (R78, R85), else the delay
that is due, else the position at `seq`; an expansion with no position there completes with no frame. -/
def perform (i : Instr) (p : Prog) (res : State → Result) (s : State) : Host.Outcome State Fault Refusal :=
  match WellFormed.check s.cfg i with
  | some c => .refused (.illFormed c)
  | none =>
    match p.due s with
    | some (ms, n) => .next (delayStep ms n s)
    | none =>
      match p.pos s.seq with
      | some m => runMicro p res m (startOp p s)
      | none => .next (complete res (startOp p s))

/-! ### The results (R82) -/

/-- `Ok`. -/
def resultOk : State → Result := fun _ => .ok
/-- `OkByte(RX)` of a read operation. -/
def resultByte : State → Result := fun s => .okByte s.rx
/-- `OkHalf({RX, TMP})` of a 16-bit read: the high byte was read last (R126). -/
def resultHalf : State → Result := fun s => .okHalf (half s.rx s.tmp)

/-! ### The building blocks of expansions (R101 to R105, R120 to R127, R142) -/

/-- A position with nothing but its action. -/
def plain (a : Act) : Item := .micro { act := a }

/-- `WR8 a, v` (R120). -/
def wr8 (a v : Byte) : Prog := [plain (.cmdw a), plain (.datw v)]

/-- `WR16 a, v`: low byte to `a`, then high byte to `a + 1` (R121). -/
def wr16 (a : Byte) (v : Half) : Prog := wr8 a (lo8 v) ++ wr8 (pairHigh a) (hi8 v)

/-- `WR32 a, v`: the address, then one burst, most significant byte first (R122). -/
def wr32 (a : Byte) (v : Word) : Prog := [plain (.cmdw a), plain (.datwb (be32 v))]

/-- `RD8 a` (R123). -/
def rd8 (ph a : Byte) : Prog := [plain (.cmdw a), plain (.datr ph)]

/-- `RD16 a`: low byte, kept in `TMP`, then high byte (R126). -/
def rd16 (ph a : Byte) : Prog :=
  [plain (.cmdw a), .micro { act := .datr ph, save := true }] ++ rd8 ph (pairHigh a)

/-- `RMWB a, m, e`: read into `TMP`, then write back with bit `m` set or cleared (R127). -/
def rmwb (ph a m : Byte) (e : Bool) : Prog :=
  [plain (.cmdw a), .micro { act := .datr ph, save := true }, plain (.cmdw a), plain (.datwRmw m e)]

/-- `POLLR a, m, t`: a full `RD8` each time, back to its start where the test fails (R124). -/
def pollr (ph a m : Byte) (t : Bool) : Prog :=
  [plain (.cmdw a), .micro { act := .datr ph, ctl := .poll m t (.fwd 1) (.back 1) }]

/-- `POLLS m, t`: a fresh status read each time (R125). -/
def polls (ph m : Byte) (t : Bool) : Prog := [.micro { act := .stsr ph, ctl := .poll m t (.fwd 1) (.back 0) }]

/-- The SDRAM poll of `INIT_MEM`: `RD8`, and after an attempt that fails a delay before the next (R141). -/
def pollrDelayed (ph a m : Byte) (t : Bool) (ms : Nat) : Prog :=
  [plain (.cmdw a), .micro { act := .datr ph, ctl := .poll m t (.fwd 1) (.wait ms 2) }]

/-- `MemWrite` by the entry's width class (R7, R128). -/
def memWrite : RegWrite → Prog
  | .w8 a v => wr8 a v
  | .w16 a v => wr16 a v
  | .w32 a v => wr32 a v

/-- A configuration step: the writes of a `CFG_*` list in list order (R142). -/
def cfgStep (l : List RegWrite) : Prog := l.flatMap memWrite

end Sys2Proof.Machine
end

