-- ==== Sys2Proof/Machine/Bte.lean ====
section
/-! DEFINITION. The BTE command sequencer (43_bte.md). -/

namespace Sys2Proof.Machine

open Sys2Proof Operands

/-- `BTE_DEST_ADDR v`: `WR32` (R180). -/
def progBteDestAddr (c : Cfg) (v : Word) : Prog := wr32 c.regs.bteDestAddr v ++ [.mark .bteField]

/-- `BTE_DEST_ADDR v`: destination address (R180). -/
def execBteDestAddr (v : Word) (s : State) : Host.Outcome State Fault Refusal :=
  perform (.bteDestAddr v) (progBteDestAddr s.cfg v) resultOk s

/-- `BTE_DEST_POS x, y`: `WR16` of x, then of y (R181). -/
def progBteDestPos (c : Cfg) (x y : Half) : Prog :=
  wr16 c.regs.bteDestX x ++ wr16 c.regs.bteDestY y ++ [.mark .bteField]

/-- `BTE_DEST_POS x, y`: destination position (R181). -/
def execBteDestPos (x y : Half) (s : State) : Host.Outcome State Fault Refusal :=
  perform (.bteDestPos x y) (progBteDestPos s.cfg x y) resultOk s

/-- `BTE_COLOR_DEPTH s0, s1, d`: `WR8` of the packed codes; codes outside the packing's domain are refused before (R182). -/
def progBteColorDepth (c : Cfg) (s0 s1 d : Byte) : Prog :=
  (c.bte.colr s0 s1 d).elim [] (fun b => wr8 c.regs.bteColr b ++ [.mark .bteField])

/-- `BTE_COLOR_DEPTH s0, s1, d`: colour depths (R182). -/
def execBteColorDepth (s0 s1 d : Byte) (s : State) : Host.Outcome State Fault Refusal :=
  perform (.bteColorDepth s0 s1 d) (progBteColorDepth s.cfg s0 s1 d) resultOk s

/-- `BTE_ALPHA v`: `WR8` (R183). -/
def progBteAlpha (c : Cfg) (v : Byte) : Prog := wr8 c.regs.bteAlpha v ++ [.mark .bteField]

/-- `BTE_ALPHA v`: alpha value (R183). -/
def execBteAlpha (v : Byte) (s : State) : Host.Outcome State Fault Refusal :=
  perform (.bteAlpha v) (progBteAlpha s.cfg v) resultOk s

/-- `BTE_DEST_WIDTH v`: `WR16` (R184). -/
def progBteDestWidth (c : Cfg) (v : Half) : Prog := wr16 c.regs.bteDestWidth v ++ [.mark .bteField]

/-- `BTE_DEST_WIDTH v`: destination pitch (R184). -/
def execBteDestWidth (v : Half) (s : State) : Host.Outcome State Fault Refusal :=
  perform (.bteDestWidth v) (progBteDestWidth s.cfg v) resultOk s

/-- `BTE_WIDTH v`: `WR16` (R185). -/
def progBteWidth (c : Cfg) (v : Half) : Prog := wr16 c.regs.bteWidth v ++ [.mark .bteField]

/-- `BTE_WIDTH v`: operation width (R185). -/
def execBteWidth (v : Half) (s : State) : Host.Outcome State Fault Refusal :=
  perform (.bteWidth v) (progBteWidth s.cfg v) resultOk s

/-- `BTE_HEIGHT v`: `WR16` (R186). -/
def progBteHeight (c : Cfg) (v : Half) : Prog := wr16 c.regs.bteHeight v ++ [.mark .bteField]

/-- `BTE_HEIGHT v`: operation height (R186). -/
def execBteHeight (v : Half) (s : State) : Host.Outcome State Fault Refusal :=
  perform (.bteHeight v) (progBteHeight s.cfg v) resultOk s

/-- `SET_FG_COLOR r, g, b`: three `WR8`, red, green, blue (R187). -/
def progSetFgColor (c : Cfg) (r g b : Byte) : Prog :=
  wr8 c.regs.fgcR r ++ wr8 c.regs.fgcG g ++ wr8 c.regs.fgcB b ++ [.mark .bteField]

/-- `SET_FG_COLOR r, g, b`: foreground colour (R187). -/
def execSetFgColor (r g b : Byte) (s : State) : Host.Outcome State Fault Refusal :=
  perform (.setFgColor r g b) (progSetFgColor s.cfg r g b) resultOk s

/-- `BTE_SETUP rop, opc`: `WR8` of the packed codes; codes outside the packing's domain are refused before (R188). -/
def progBteSetup (c : Cfg) (rop opc : Byte) : Prog :=
  (c.bte.setup rop opc).elim [] (fun b => wr8 c.regs.bteSetup b ++ [.mark .bteSetup])

/-- `BTE_SETUP rop, opc` (R188). -/
def execBteSetup (rop opc : Byte) (s : State) : Host.Outcome State Fault Refusal :=
  perform (.bteSetup rop opc) (progBteSetup s.cfg rop opc) resultOk s

/-- `BTE_START`: read-modify-write that sets the enable bit (R189). -/
def progBteStart (c : Cfg) : Prog := rmwb c.wire.ph c.regs.bteCtrl c.bte.enableMask true ++ [.mark .bteStart]

/-- `BTE_START`: the start trigger (R189). -/
def execBteStart (s : State) : Host.Outcome State Fault Refusal :=
  perform .bteStart (progBteStart s.cfg) resultOk s

/-- `BTE_WAIT`: poll of the busy bit until it shows not busy (R190). -/
def progBteWait (c : Cfg) : Prog :=
  pollr c.wire.ph c.regs.bteCtrl c.bte.busyMask (!c.bte.busyLevel) ++ [.mark .bteWait]

/-- `BTE_WAIT` (R190). -/
def execBteWait (s : State) : Host.Outcome State Fault Refusal :=
  perform .bteWait (progBteWait s.cfg) resultOk s

/-- `FILL r, g, b`: the ten steps in their order (R179, R191). -/
def progFill (c : Cfg) (r g b : Byte) : Prog :=
  progBteDestAddr c c.bte.fillDestAddr ++ progBteDestPos c 0#16 0#16 ++
    progBteColorDepth c c.bte.depth24 c.bte.depth24 c.bte.depth24 ++ progBteAlpha c c.bte.fillAlpha ++
    progBteDestWidth c c.display.width ++ progBteWidth c c.display.width ++ progBteHeight c c.display.height ++
    progSetFgColor c r g b ++ progBteSetup c c.bte.ropWhite c.bte.opcSolidFill ++ progBteStart c

/-- `FILL r, g, b`: full-screen solid fill (R179, R191). -/
def execFill (r g b : Byte) (s : State) : Host.Outcome State Fault Refusal :=
  perform (.fill r g b) (progFill s.cfg r g b) resultOk s

end Sys2Proof.Machine
end

