-- ==== Sys2Proof/Machine/Display.lean ====
section
/-! DEFINITION. The display controller sequences (42_display_controller.md). -/

namespace Sys2Proof.Machine

open Sys2Proof Operands

/-- One chunk of a text (R159): wait until the write FIFO is empty, send the address of the data port and the chunk in
one burst, wait until not busy. -/
def textChunk (c : Cfg) (ds : List Byte) : Prog :=
  polls c.wire.ph c.status.wfifoMask c.status.wfifoEmptyLevel ++
    [plain (.cmdw c.regs.dataPort), plain (.datwb ds)] ++
    polls c.wire.ph c.status.busyMask (!c.status.busyLevel)

/-- `WAIT_READY`: a status poll of the ready bit (R140). -/
def progWaitReady (c : Cfg) : Prog := polls c.wire.ph c.status.readyMask c.status.readyLevel

/-- `WAIT_READY`: wait for controller ready (R140). -/
def execWaitReady (s : State) : Host.Outcome State Fault Refusal :=
  perform .waitReady (progWaitReady s.cfg) resultOk s

/-- `INIT_MEM`: the SDRAM writes, the start bit, the delayed poll of the done bit (R141). -/
def progInitMem (c : Cfg) : Prog :=
  [.mark .sdramInitializing] ++ cfgStep c.sdram.writes ++ wr8 c.regs.sdramCtrl c.sdram.startVal ++
    pollrDelayed c.wire.ph c.regs.sdramCtrl c.sdram.doneMask c.sdram.doneLevel c.sdram.pollDelayMs

/-- `INIT_MEM`: SDRAM initialisation (R141). -/
def execInitMem (s : State) : Host.Outcome State Fault Refusal :=
  perform .initMem (progInitMem s.cfg) resultOk s

/-- `SET_DISPLAY_SIZE w, h`: `(w / 8) - 1` to the width register, `h - 1` to the height pair (R144, R154). -/
def progSetDisplaySize (c : Cfg) (w h : Half) : Prog :=
  wr8 c.regs.dispWidth (widthByte w) ++ wr16 c.regs.dispHeight (heightValue h)

/-- `SET_DISPLAY_SIZE w, h` (R144, R154). -/
def execSetDisplaySize (w h : Half) (s : State) : Host.Outcome State Fault Refusal :=
  perform (.setDisplaySize w h) (progSetDisplaySize s.cfg w h) resultOk s

/-- `SET_BACK_PORCH`: the list of its step (R142, R145). -/
def progSetBackPorch (c : Cfg) : Prog := cfgStep c.steps.backPorch

/-- `SET_BACK_PORCH`: one configuration step (R142, R145). -/
def execSetBackPorch (s : State) : Host.Outcome State Fault Refusal :=
  perform .setBackPorch (progSetBackPorch s.cfg) resultOk s

/-- `SET_FRONT_PORCH`: the list of its step (R142, R146). -/
def progSetFrontPorch (c : Cfg) : Prog := cfgStep c.steps.frontPorch

/-- `SET_FRONT_PORCH`: one configuration step (R142, R146). -/
def execSetFrontPorch (s : State) : Host.Outcome State Fault Refusal :=
  perform .setFrontPorch (progSetFrontPorch s.cfg) resultOk s

/-- `SET_MAIN_IMAGE_WIDTH`: the list of its step (R142, R147). -/
def progSetMainImageWidth (c : Cfg) : Prog := cfgStep c.steps.mainImageWidth

/-- `SET_MAIN_IMAGE_WIDTH`: one configuration step (R142, R147). -/
def execSetMainImageWidth (s : State) : Host.Outcome State Fault Refusal :=
  perform .setMainImageWidth (progSetMainImageWidth s.cfg) resultOk s

/-- `SET_ACTIVE_WINDOW`: the list of its step (R142, R148). -/
def progSetActiveWindow (c : Cfg) : Prog := cfgStep c.steps.activeWindow

/-- `SET_ACTIVE_WINDOW`: one configuration step (R142, R148). -/
def execSetActiveWindow (s : State) : Host.Outcome State Fault Refusal :=
  perform .setActiveWindow (progSetActiveWindow s.cfg) resultOk s

/-- `SET_CANVAS_WIDTH`: the list of its step (R142, R149). -/
def progSetCanvasWidth (c : Cfg) : Prog := cfgStep c.steps.canvasWidth

/-- `SET_CANVAS_WIDTH`: one configuration step (R142, R149). -/
def execSetCanvasWidth (s : State) : Host.Outcome State Fault Refusal :=
  perform .setCanvasWidth (progSetCanvasWidth s.cfg) resultOk s

/-- `SET_PIXEL_FORMAT`: the list of its step (R142, R150). -/
def progSetPixelFormat (c : Cfg) : Prog := cfgStep c.steps.pixelFormat

/-- `SET_PIXEL_FORMAT`: one configuration step (R142, R150). -/
def execSetPixelFormat (s : State) : Host.Outcome State Fault Refusal :=
  perform .setPixelFormat (progSetPixelFormat s.cfg) resultOk s

/-- `SET_SYSCFG`: the list of its step (R142, R151). -/
def progSetSyscfg (c : Cfg) : Prog := cfgStep c.steps.syscfg

/-- `SET_SYSCFG`: one configuration step (R142, R151). -/
def execSetSyscfg (s : State) : Host.Outcome State Fault Refusal :=
  perform .setSyscfg (progSetSyscfg s.cfg) resultOk s

/-- `SET_SYNC_POLARITY`: the list of its step (R142, R152). -/
def progSetSyncPolarity (c : Cfg) : Prog := cfgStep c.steps.syncPolarity

/-- `SET_SYNC_POLARITY`: one configuration step (R142, R152). -/
def execSetSyncPolarity (s : State) : Host.Outcome State Fault Refusal :=
  perform .setSyncPolarity (progSetSyncPolarity s.cfg) resultOk s

/-- `SET_DISPLAY_CTRL`: the list of its step; then `disp_on` and `test_on` follow the value written (R142, R153). -/
def progSetDisplayCtrl (c : Cfg) : Prog :=
  cfgStep c.steps.displayCtrl ++
    ((lastWrite c.regs.dispCtrl c.steps.displayCtrl).map fun v => Item.mark (.dispCtrl v)).toList

/-- `SET_DISPLAY_CTRL`: one configuration step (R142, R153). -/
def execSetDisplayCtrl (s : State) : Host.Outcome State Fault Refusal :=
  perform .setDisplayCtrl (progSetDisplayCtrl s.cfg) resultOk s

/-- `INIT_DISP`: the twelve steps in their order, then `lifecycle` is `Configured` (R143). -/
def progInitDisp (c : Cfg) : Prog :=
  progWaitReady c ++ progInitMem c ++ progSetDisplaySize c c.display.width c.display.height ++ progSetBackPorch c ++
    progSetFrontPorch c ++ progSetMainImageWidth c ++ progSetActiveWindow c ++ progSetCanvasWidth c ++
    progSetPixelFormat c ++ progSetSyscfg c ++ progSetSyncPolarity c ++ progSetDisplayCtrl c ++ [.mark .configured]

/-- `INIT_DISP`: display bring-up (R143). -/
def execInitDisp (s : State) : Host.Outcome State Fault Refusal :=
  perform .initDisp (progInitDisp s.cfg) resultOk s

/-- `ENABLE_DISPLAY e`: read-modify-write of the display bit (R155, R156). -/
def progEnableDisplay (c : Cfg) (e : Bool) : Prog :=
  rmwb c.wire.ph c.regs.dispCtrl c.display.onMask e ++ [.mark (.dispOn e)]

/-- `ENABLE_DISPLAY e` (R155, R156). -/
def execEnableDisplay (e : Bool) (s : State) : Host.Outcome State Fault Refusal :=
  perform (.enableDisplay e) (progEnableDisplay s.cfg e) resultOk s

/-- `ENABLE_TEST_PATTERN e`: read-modify-write of the colour-bar bit (R155, R157). -/
def progEnableTestPattern (c : Cfg) (e : Bool) : Prog :=
  rmwb c.wire.ph c.regs.dispCtrl c.display.colorBarMask e ++ [.mark (.testOn e)]

/-- `ENABLE_TEST_PATTERN e` (R155, R157). -/
def execEnableTestPattern (e : Bool) (s : State) : Host.Outcome State Fault Refusal :=
  perform (.enableTestPattern e) (progEnableTestPattern s.cfg e) resultOk s

/-- `ENABLE_TEXT_MODE e`: read-modify-write of the text-mode bit (R155, R158). -/
def progEnableTextMode (c : Cfg) (e : Bool) : Prog :=
  rmwb c.wire.ph c.regs.textCtrl c.display.textModeMask e ++ [.mark (.textOn e)]

/-- `ENABLE_TEXT_MODE e` (R155, R158). -/
def execEnableTextMode (e : Bool) (s : State) : Host.Outcome State Fault Refusal :=
  perform (.enableTextMode e) (progEnableTextMode s.cfg e) resultOk s

/-- `WRITE_TEXT s`: the chunks of the text in order (R159). -/
def progWriteText (c : Cfg) (txt : List Byte) : Prog := (chunks txt).flatMap (textChunk c)

/-- `WRITE_TEXT s`: text streaming (R159). -/
def execWriteText (txt : List Byte) (s : State) : Host.Outcome State Fault Refusal :=
  perform (.writeText txt) (progWriteText s.cfg txt) resultOk s

/-- `SET_TEXT_CURSOR_X v`: `WR16` (R160). -/
def progSetTextCursorX (c : Cfg) (v : Half) : Prog := wr16 c.regs.tcurX v

/-- `SET_TEXT_CURSOR_X v` (R160). -/
def execSetTextCursorX (v : Half) (s : State) : Host.Outcome State Fault Refusal :=
  perform (.setTextCursorX v) (progSetTextCursorX s.cfg v) resultOk s

/-- `SET_TEXT_CURSOR_Y v`: `WR16` (R161). -/
def progSetTextCursorY (c : Cfg) (v : Half) : Prog := wr16 c.regs.tcurY v

/-- `SET_TEXT_CURSOR_Y v` (R161). -/
def execSetTextCursorY (v : Half) (s : State) : Host.Outcome State Fault Refusal :=
  perform (.setTextCursorY v) (progSetTextCursorY s.cfg v) resultOk s

/-- `GET_TEXT_CURSOR_Y`: `RD16` (R162). -/
def progGetTextCursorY (c : Cfg) : Prog := rd16 c.wire.ph c.regs.tcurY

/-- `GET_TEXT_CURSOR_Y`, result `OkHalf` (R162). -/
def execGetTextCursorY (s : State) : Host.Outcome State Fault Refusal :=
  perform .getTextCursorY (progGetTextCursorY s.cfg) resultHalf s

end Sys2Proof.Machine
end

