-- ==== Sys2Proof/Machine/Register.lean ====
section
/-! DEFINITION. The register access operations (41_register_access.md). -/

namespace Sys2Proof.Machine

open Sys2Proof Operands

/-- `WR8 a, v`: `CMDW a; DATW v` (R120). -/
def progWr8 (_ : Cfg) (a v : Byte) : Prog := wr8 a v

/-- `WR8 a, v`: 8-bit register write (R120). -/
def execWr8 (a v : Byte) (s : State) : Host.Outcome State Fault Refusal :=
  perform (.wr8 a v) (progWr8 s.cfg a v) resultOk s

/-- `WR16 a, v`: low byte to `a`, high byte to `a + 1` (R121). -/
def progWr16 (_ : Cfg) (a : Byte) (v : Half) : Prog := wr16 a v

/-- `WR16 a, v`: paired-byte write (R121). -/
def execWr16 (a : Byte) (v : Half) (s : State) : Host.Outcome State Fault Refusal :=
  perform (.wr16 a v) (progWr16 s.cfg a v) resultOk s

/-- `WR32 a, v`: the address, then one 4-byte burst (R122). -/
def progWr32 (_ : Cfg) (a : Byte) (v : Word) : Prog := wr32 a v

/-- `WR32 a, v`: burst register write (R122). -/
def execWr32 (a : Byte) (v : Word) (s : State) : Host.Outcome State Fault Refusal :=
  perform (.wr32 a v) (progWr32 s.cfg a v) resultOk s

/-- `RD8 a`: `CMDW a; DATR` (R123). -/
def progRd8 (c : Cfg) (a : Byte) : Prog := rd8 c.wire.ph a

/-- `RD8 a`: 8-bit register read, result `OkByte` (R123). -/
def execRd8 (a : Byte) (s : State) : Host.Outcome State Fault Refusal :=
  perform (.rd8 a) (progRd8 s.cfg a) resultByte s

/-- `POLLR a, m, t`: `RD8 a` until the bit reads `t` (R124). -/
def progPollr (c : Cfg) (a m : Byte) (t : Bool) : Prog := pollr c.wire.ph a m t

/-- `POLLR a, m, t`: poll of a register bit (R124). -/
def execPollr (a m : Byte) (t : Bool) (s : State) : Host.Outcome State Fault Refusal :=
  perform (.pollr a m t) (progPollr s.cfg a m t) resultOk s

/-- `POLLS m, t`: `STSR` until the bit reads `t` (R125). -/
def progPolls (c : Cfg) (m : Byte) (t : Bool) : Prog := polls c.wire.ph m t

/-- `POLLS m, t`: poll of a status bit (R125). -/
def execPolls (m : Byte) (t : Bool) (s : State) : Host.Outcome State Fault Refusal :=
  perform (.polls m t) (progPolls s.cfg m t) resultOk s

end Sys2Proof.Machine
end

