-- ==== Sys2Proof/Machine/Transport.lean ====
section
/-! DEFINITION. The transport operations (40_transport.md). -/

namespace Sys2Proof.Machine

open Sys2Proof Operands

/-- `CMDW a`: the frame `[00 a]` (R101). -/
def progCmdw (_ : Cfg) (a : Byte) : Prog := [plain (.cmdw a)]

/-- `CMDW a`: command write (R101). -/
def execCmdw (a : Byte) (s : State) : Host.Outcome State Fault Refusal :=
  perform (.cmdw a) (progCmdw s.cfg a) resultOk s

/-- `STSR`: the frame `[40 PH]` (R104). -/
def progStsr (c : Cfg) : Prog := [plain (.stsr c.wire.ph)]

/-- `STSR`: status read, result `OkByte` (R104). -/
def execStsr (s : State) : Host.Outcome State Fault Refusal :=
  perform .stsr (progStsr s.cfg) resultByte s

/-- `DATW d`: the frame `[80 d]` (R102). -/
def progDatw (_ : Cfg) (d : Byte) : Prog := [plain (.datw d)]

/-- `DATW d`: data write (R102). -/
def execDatw (d : Byte) (s : State) : Host.Outcome State Fault Refusal :=
  perform (.datw d) (progDatw s.cfg d) resultOk s

/-- `DATR`: the frame `[C0 PH]` (R103). -/
def progDatr (c : Cfg) : Prog := [plain (.datr c.wire.ph)]

/-- `DATR`: data read, result `OkByte` (R103). -/
def execDatr (s : State) : Host.Outcome State Fault Refusal :=
  perform .datr (progDatr s.cfg) resultByte s

/-- `DATWB ds`: the frame `[80] ++ ds` (R105). -/
def progDatwb (_ : Cfg) (ds : List Byte) : Prog := [plain (.datwb ds)]

/-- `DATWB ds`: burst data write (R105). -/
def execDatwb (ds : List Byte) (s : State) : Host.Outcome State Fault Refusal :=
  perform (.datwb ds) (progDatwb s.cfg ds) resultOk s

end Sys2Proof.Machine
end

