-- ==== Sys2Proof/Machine/Wire.lean ====
section
/-! DEFINITION. The five wire frame kinds (R71, R74): each the transport operation of its rule, with the frame's own bytes. -/

namespace Sys2Proof.Machine

open Sys2Proof Operands

/-- The frame `[00 a]` (R71, R101). -/
def progFrameCommandWrite (_ : Cfg) (a : Byte) : Prog := [plain (.cmdw a)]

/-- One command-write frame (R71, R101). -/
def execFrameCommandWrite (a : Byte) (s : State) : Host.Outcome State Fault Refusal :=
  perform (.frameCommandWrite a) (progFrameCommandWrite s.cfg a) resultOk s

/-- The frame `[40 p]` (R71, R104). -/
def progFrameStatusRead (_ : Cfg) (p : Byte) : Prog := [plain (.stsr p)]

/-- One status-read frame; the status byte goes to `RX` (R71, R104). -/
def execFrameStatusRead (p : Byte) (s : State) : Host.Outcome State Fault Refusal :=
  perform (.frameStatusRead p) (progFrameStatusRead s.cfg p) resultByte s

/-- The frame `[80 d]` (R71, R102). -/
def progFrameDataWrite (_ : Cfg) (d : Byte) : Prog := [plain (.datw d)]

/-- One data-write frame (R71, R102). -/
def execFrameDataWrite (d : Byte) (s : State) : Host.Outcome State Fault Refusal :=
  perform (.frameDataWrite d) (progFrameDataWrite s.cfg d) resultOk s

/-- The frame `[C0 p]` (R71, R103). -/
def progFrameDataRead (_ : Cfg) (p : Byte) : Prog := [plain (.datr p)]

/-- One data-read frame; the register byte goes to `RX` (R71, R103). -/
def execFrameDataRead (p : Byte) (s : State) : Host.Outcome State Fault Refusal :=
  perform (.frameDataRead p) (progFrameDataRead s.cfg p) resultByte s

/-- The frame `[80] ++ ds` (R74, R105). -/
def progFrameDataBurst (_ : Cfg) (ds : List Byte) : Prog := [plain (.datwb ds)]

/-- One burst frame (R74, R105). -/
def execFrameDataBurst (ds : List Byte) (s : State) : Host.Outcome State Fault Refusal :=
  perform (.frameDataBurst ds) (progFrameDataBurst s.cfg ds) resultOk s

end Sys2Proof.Machine
end

