-- ==== Sys2Proof/Machine/Dispatch.lean ====
section
/-! DEFINITION. `exec`: one arm per constructor of `Instr`, each a direct call of that instruction's meaning. -/

namespace Sys2Proof.Machine

open Sys2Proof

def exec (i : Instr) (s : State) : Host.Outcome State Fault Refusal :=
  match i with
  | .frameCommandWrite a => Sys2Proof.Machine.execFrameCommandWrite a s
  | .frameStatusRead p => Sys2Proof.Machine.execFrameStatusRead p s
  | .frameDataWrite d => Sys2Proof.Machine.execFrameDataWrite d s
  | .frameDataRead p => Sys2Proof.Machine.execFrameDataRead p s
  | .frameDataBurst ds => Sys2Proof.Machine.execFrameDataBurst ds s
  | .cmdw a => Sys2Proof.Machine.execCmdw a s
  | .stsr => Sys2Proof.Machine.execStsr s
  | .datw d => Sys2Proof.Machine.execDatw d s
  | .datr => Sys2Proof.Machine.execDatr s
  | .datwb ds => Sys2Proof.Machine.execDatwb ds s
  | .wr8 a v => Sys2Proof.Machine.execWr8 a v s
  | .wr16 a v => Sys2Proof.Machine.execWr16 a v s
  | .wr32 a v => Sys2Proof.Machine.execWr32 a v s
  | .rd8 a => Sys2Proof.Machine.execRd8 a s
  | .pollr a m t => Sys2Proof.Machine.execPollr a m t s
  | .polls m t => Sys2Proof.Machine.execPolls m t s
  | .waitReady => Sys2Proof.Machine.execWaitReady s
  | .initMem => Sys2Proof.Machine.execInitMem s
  | .initDisp => Sys2Proof.Machine.execInitDisp s
  | .setDisplaySize w h => Sys2Proof.Machine.execSetDisplaySize w h s
  | .setBackPorch => Sys2Proof.Machine.execSetBackPorch s
  | .setFrontPorch => Sys2Proof.Machine.execSetFrontPorch s
  | .setMainImageWidth => Sys2Proof.Machine.execSetMainImageWidth s
  | .setActiveWindow => Sys2Proof.Machine.execSetActiveWindow s
  | .setCanvasWidth => Sys2Proof.Machine.execSetCanvasWidth s
  | .setPixelFormat => Sys2Proof.Machine.execSetPixelFormat s
  | .setSyscfg => Sys2Proof.Machine.execSetSyscfg s
  | .setSyncPolarity => Sys2Proof.Machine.execSetSyncPolarity s
  | .setDisplayCtrl => Sys2Proof.Machine.execSetDisplayCtrl s
  | .enableDisplay e => Sys2Proof.Machine.execEnableDisplay e s
  | .enableTestPattern e => Sys2Proof.Machine.execEnableTestPattern e s
  | .enableTextMode e => Sys2Proof.Machine.execEnableTextMode e s
  | .writeText txt => Sys2Proof.Machine.execWriteText txt s
  | .setTextCursorX v => Sys2Proof.Machine.execSetTextCursorX v s
  | .setTextCursorY v => Sys2Proof.Machine.execSetTextCursorY v s
  | .getTextCursorY => Sys2Proof.Machine.execGetTextCursorY s
  | .bteDestAddr v => Sys2Proof.Machine.execBteDestAddr v s
  | .bteDestPos x y => Sys2Proof.Machine.execBteDestPos x y s
  | .bteColorDepth s0 s1 d => Sys2Proof.Machine.execBteColorDepth s0 s1 d s
  | .bteAlpha v => Sys2Proof.Machine.execBteAlpha v s
  | .bteDestWidth v => Sys2Proof.Machine.execBteDestWidth v s
  | .bteWidth v => Sys2Proof.Machine.execBteWidth v s
  | .bteHeight v => Sys2Proof.Machine.execBteHeight v s
  | .setFgColor r g b => Sys2Proof.Machine.execSetFgColor r g b s
  | .bteSetup rop opc => Sys2Proof.Machine.execBteSetup rop opc s
  | .bteStart => Sys2Proof.Machine.execBteStart s
  | .bteWait => Sys2Proof.Machine.execBteWait s
  | .fill r g b => Sys2Proof.Machine.execFill r g b s

end Sys2Proof.Machine
end

