-- ==== Sys2Proof/Machine/Fetch.lean ====
section
/-! DEFINITION. The host port and the reset input: how the next operation is taken from the host's bytes (R12, R81),
what a faulted block does (R17, U12), and how a table word is placed before the block. -/

namespace Sys2Proof.Machine

open Sys2Proof

/-- The host presents operation `i`: it is latched and starts at position 0 (R12). -/
def State.present (i : Instr) (rest : List Byte) (s : State) : State :=
  { s with opv := true, op := i, seq := 0, hostIn := rest }

/-- An idle block takes the next operation off the host's bytes and runs its first position; with no bytes there it
waits (R8, R12). Bytes that are no operation are refused (R78). -/
def takeOperation (s : State) : Host.Outcome State Fault Refusal :=
  match s.hostIn with
  | [] => .next s
  | b :: bs =>
    match decode (b :: bs) with
    | .done i rest => exec i (s.present i rest)
    | .rejected e => .refused (.notAnOperation e)

/-- A step while reset is not active. A faulted block has no step of its own (R17): it waits while the reset input is
still to be read, and stops where no reset is to come. A running operation goes on; an idle block looks at the host
port. `waits` says whether readings of the reset input are left. -/
def runStep (waits : Bool) (s : State) : Host.Outcome State Fault Refusal :=
  if s.fault then (if waits then .next s else .fault .faultLatched)
  else if s.opv then exec s.op s
  else takeOperation s

/-- The reset input reads active: the state is the reset state, whatever ran (R240). -/
def resetStep (s : State) : Host.Outcome State Fault Refusal := .next (resetBlock s)

/-- The state in which the next step runs the instruction of a table word: a host operation's bytes stand at the host
port, a frame is latched, and the block is ready to run it (log entry 7). -/
def placeTableWord (s : State) (nbits w : Nat) : State :=
  let ready := { s with cs := true, opv := false, fault := false, timer := none, resetIn := [] }
  match decodeTableWord nbits w with
  | some i =>
      if i.isFrame then { ready with opv := true, op := i, seq := 0 } else { ready with hostIn := encode i }
  | none => { ready with hostIn := tableBytes nbits w ++ operandZeros }

end Sys2Proof.Machine
end

