-- ==== Sys2Proof/Machine/Step.lean ====
section
/-! DEFINITION. One step of the machine: the reset input, then the block (R8, R12, R15, R240). -/

namespace Sys2Proof.Machine

open Sys2Proof

/-- One step: while the reset input reads active the state is the reset state (R240), else the block runs. -/
def step (s : State) : Host.Outcome State Fault Refusal :=
  match s.resetIn with
  | [] => runStep false s
  | true :: r => resetStep { s with resetIn := r }
  | false :: r => runStep true { s with resetIn := r }

/-- The state whose next step runs the instruction of a table word (log entry 7). -/
def State.withFetchWord (s : State) (nbits w : Nat) : State := placeTableWord s nbits w

end Sys2Proof.Machine
end

