-- ==== Sys2Proof/Machine/Expansion.lean ====
section
/-! DEFINITION. The expansion and the result of every operation in one place (R84): what the meanings hand to
`perform`. -/

namespace Sys2Proof.Machine

open Sys2Proof

/-- The expansion of an operation under configuration `c` (R84). -/
def expansion (c : Cfg) : Instr → Prog
  | .frameCommandWrite a => progFrameCommandWrite c a
  | .frameStatusRead p => progFrameStatusRead c p
  | .frameDataWrite d => progFrameDataWrite c d
  | .frameDataRead p => progFrameDataRead c p
  | .frameDataBurst ds => progFrameDataBurst c ds
  | .cmdw a => progCmdw c a
  | .stsr => progStsr c
  | .datw d => progDatw c d
  | .datr => progDatr c
  | .datwb ds => progDatwb c ds
  | .wr8 a v => progWr8 c a v
  | .wr16 a v => progWr16 c a v
  | .wr32 a v => progWr32 c a v
  | .rd8 a => progRd8 c a
  | .pollr a m t => progPollr c a m t
  | .polls m t => progPolls c m t
  | .waitReady => progWaitReady c
  | .initMem => progInitMem c
  | .initDisp => progInitDisp c
  | .setDisplaySize w h => progSetDisplaySize c w h
  | .setBackPorch => progSetBackPorch c
  | .setFrontPorch => progSetFrontPorch c
  | .setMainImageWidth => progSetMainImageWidth c
  | .setActiveWindow => progSetActiveWindow c
  | .setCanvasWidth => progSetCanvasWidth c
  | .setPixelFormat => progSetPixelFormat c
  | .setSyscfg => progSetSyscfg c
  | .setSyncPolarity => progSetSyncPolarity c
  | .setDisplayCtrl => progSetDisplayCtrl c
  | .enableDisplay e => progEnableDisplay c e
  | .enableTestPattern e => progEnableTestPattern c e
  | .enableTextMode e => progEnableTextMode c e
  | .writeText txt => progWriteText c txt
  | .setTextCursorX v => progSetTextCursorX c v
  | .setTextCursorY v => progSetTextCursorY c v
  | .getTextCursorY => progGetTextCursorY c
  | .bteDestAddr v => progBteDestAddr c v
  | .bteDestPos x y => progBteDestPos c x y
  | .bteColorDepth s0 s1 d => progBteColorDepth c s0 s1 d
  | .bteAlpha v => progBteAlpha c v
  | .bteDestWidth v => progBteDestWidth c v
  | .bteWidth v => progBteWidth c v
  | .bteHeight v => progBteHeight c v
  | .setFgColor r g b => progSetFgColor c r g b
  | .bteSetup rop opc => progBteSetup c rop opc
  | .bteStart => progBteStart c
  | .bteWait => progBteWait c
  | .fill r g b => progFill c r g b

/-- The result an operation completes with (R82). -/
def resultOf : Instr → State → Result
  | .frameStatusRead _ | .frameDataRead _ | .stsr | .datr | .rd8 _ => resultByte
  | .getTextCursorY => resultHalf
  | _ => resultOk

/-- The bytes of the frame the block sends next in operation `i`, where its next step is a frame. -/
def nextFrame (i : Instr) (s : State) : Option (List Byte) :=
  match (expansion s.cfg i).due s with
  | some _ => none
  | none => ((expansion s.cfg i).pos s.seq).map fun m => m.act.tx s

end Sys2Proof.Machine
end

