-- ==== Sys2Proof/Machine/RefTarget.lean ====
section
/-! DEFINITION. The reference target of D12, the spec's own test double, and the bench that runs the block against it.
It is no part of the machine: the block's step takes any answer (R29), and no claim about hardware may rest on this
target. A claim that names it says what the block does with a target that stores what is written (R25, R127). -/

namespace Sys2Proof.Machine

open Sys2Proof

/-- The reference target's state (D12): the selected register, the register contents, scripted reads, the payload
bytes written per address, and the frames received. -/
structure RefTarget where
  ptr : Byte
  reg : Byte → Byte
  readScript : Byte → List Byte
  statusScript : List Byte
  lastStatus : Byte
  dataLog : Byte → List Byte
  log : List (List Byte)

/-- Store the payload bytes of a write frame: each replaces the selected register's byte and is logged (D12). -/
def RefTarget.write (t : RefTarget) : List Byte → RefTarget
  | [] => t
  | d :: ds =>
      RefTarget.write
        { t with reg := fun a => if a = t.ptr then d else t.reg a
                 dataLog := fun a => if a = t.ptr then t.dataLog a ++ [d] else t.dataLog a } ds

/-- The reaction to one frame and the bytes answered, byte 0 always `0x00` (D12). A frame of another mode is a failed
test; the block sends none (R75). -/
def RefTarget.react (t : RefTarget) (tx : List Byte) : RefTarget × List Byte :=
  let u := { t with log := t.log ++ [tx] }
  match tx with
  | [] => (u, [])
  | m :: bs =>
    if m = modeCmdw then ({ u with ptr := bs.headD t.ptr }, [0x00#8, 0x00#8])
    else if m = modeDatw then (u.write bs, tx.map fun _ => 0x00#8)
    else if m = modeDatr then
      match t.readScript t.ptr with
      | [] => (u, [0x00#8, t.reg t.ptr])
      | v :: vs => ({ u with readScript := fun a => if a = t.ptr then vs else t.readScript a }, [0x00#8, v])
    else if m = modeStsr then
      match t.statusScript with
      | [] => (u, [0x00#8, t.lastStatus])
      | v :: vs => ({ u with statusScript := vs, lastStatus := v }, [0x00#8, v])
    else (u, [])

/-- The block beside the reference target. -/
structure Bench where
  dev : State
  tgt : RefTarget

/-- The frame the block sends in its next step, if that step sends one. -/
def State.upcoming (s : State) : Option (List Byte) :=
  if s.resetIn.headD false || s.fault then none
  else if s.opv then nextFrame s.op s
  else
    match decode s.hostIn with
    | .done i rest => nextFrame i (s.present i rest)
    | .rejected _ => none

/-- One step of the bench: the target answers the frame the block sends, without a transfer error. -/
def Bench.step (b : Bench) : Host.Outcome Bench Fault Refusal :=
  match b.dev.upcoming with
  | some tx =>
      match Machine.step { b.dev with link := [{ rx := (b.tgt.react tx).2, err := none }] } with
      | .next s => .next { dev := s, tgt := (b.tgt.react tx).1 }
      | .fault f => .fault f
      | .refused r => .refused r
  | none =>
      match Machine.step b.dev with
      | .next s => .next { dev := s, tgt := b.tgt }
      | .fault f => .fault f
      | .refused r => .refused r

/-- `n` steps of the bench. -/
def Bench.run : Nat → Bench → Host.Outcome Bench Fault Refusal
  | 0, b => .next b
  | n + 1, b =>
    match b.step with
    | .next b' => Bench.run n b'
    | .fault f => .fault f
    | .refused r => .refused r

end Sys2Proof.Machine
end

