-- ==== Sys2Proof/Safety.lean ====
section
/-! DEFINITION. What counts as a safe run, in the terms claims use: the grammar of the bus trace (R75, R106), the
invariant of the machine, the end of a run (R249), and the host's obligations, whose violation the block does not
detect (R192, R213). -/

namespace Sys2Proof.Safety

open Sys2Proof Machine

/-! ### The grammar of the trace -/

/-- Where a reader of the trace stands: outside a chip-select window, inside one with the bytes sent so far, or behind
a fault. -/
inductive Window where
  | outside
  | inside (sent : List Byte)
  | dead
deriving DecidableEq, Repr

/-- A whole frame the block may send (R75): 2 bytes with one of the four mode bytes, or a longer one with mode `0x80`,
of at most 256 bytes. -/
def legalFrame (tx : List Byte) : Bool := (decodeFrame tx).isSome && tx.length ≤ 256

/-- What may have gone out of a frame that failed: a beginning of a legal frame, or nothing (R100). -/
def legalPart (tx : List Byte) : Bool :=
  match tx with
  | [] => true
  | m :: bs => (m == modeCmdw || m == modeStsr || m == modeDatw || m == modeDatr) &&
      (bs.length ≤ 1 || m == modeDatw) && bs.length ≤ 255

/-- Read one event. -/
def readEvent : Window → Event → Option Window
  | .outside, .csLow => some (.inside [])
  | .outside, .delay _ => some .outside
  | .inside tx, .xfer b _ => some (.inside (tx ++ [b]))
  | .inside tx, .csHigh => if legalFrame tx then some .outside else none
  | .inside tx, .faulted => if legalPart tx then some .dead else none
  | _, _ => none

/-- Read a trace from its beginning; nothing where it breaks the grammar. -/
def readTrace (w : Window) : List Event → Option Window
  | [] => some w
  | e :: es => (readEvent w e).bind fun v => readTrace v es

/-- The delays requested in a trace (R18, R222). -/
def delays : List Event → List Nat
  | [] => []
  | .delay ms :: es => ms :: delays es
  | _ :: es => delays es

/-! ### The invariant -/

/-- The invariant of the machine: outside a frame chip-select is released (R11); a faulted block runs nothing and has
handed the fault to the host (R17, R212); the trace keeps the grammar of R75 and R106; a running operation is well
formed (R78) and has a delay or a position to carry out (R15); a delay is pending at the timer only while a running
operation is due one, of just that length (R19, R222). -/
structure Inv (s : State) : Prop where
  released : s.fault = false → s.cs = true
  faulted : s.fault = true → s.opv = false ∧ s.result = .fault s.faultInfo
  grammar : readTrace .outside s.trace = some (if s.fault then .dead else .outside)
  wellFormed : s.opv = true → WellFormed.check s.cfg s.op = none
  position : s.opv = true →
    ((expansion s.cfg s.op).due s).isSome = true ∨ ((expansion s.cfg s.op).pos s.seq).isSome = true
  waiting : ∀ ms, s.timer = some ms → s.opv = true ∧ ∃ n, (expansion s.cfg s.op).due s = some (ms, n)

/-! ### The end of a run (R249) -/

/-- The run has ended: the host has no further operation and none is running, or the block is faulted, which is an end
whatever the host still has. R249 calls a state with `FAULT = 1` an end, R212 says that it is never a final state of a run:
the model reads the second as `endedWell` does, an end but never a good one (DESIGN CHOICE, log entry 21). -/
def ended (s : State) : Bool := s.fault || (s.hostIn.isEmpty && !s.opv)

/-- The run has ended well: never in a faulted state (R212, R249). -/
def endedWell (s : State) : Bool := ended s && !s.fault && s.cs

/-! ### Obligations of the host (R192, R213, R248) -/

/-- What R213 and R248 have a claim exclude, as an operation can be it when the host presents it. -/
inductive Violation where
  /-- `BTE_START` with `bte_phase` other than `SetUp` -/
  | startBeforeSetup
  /-- a field writer, `BTE_SETUP` or `BTE_START` while the engine may be busy -/
  | descriptorWhileStarted
  /-- a `W16` register written by a burst, or a `W32` register byte-wise -/
  | wrongProtocol
  /-- `DATW`, `DATR` or `DATWB` with no command write since reset -/
  | noRegisterSelected
  /-- `WRITE_TEXT` with text mode not known to be on: off, or unknown as after reset (the second is the model's choice,
  log entry 19) -/
  | textModeOff
  /-- a toggle, text, cursor or BTE operation before `INIT_DISP` has completed -/
  | notConfigured
  /-- a raw write of a BTE or control register, after which the ghost state says nothing of the engine (R248) -/
  | bypassesGhost
deriving DecidableEq, Repr

/-- The BTE field writers (R180 to R187). -/
def isFieldWriter : Instr → Bool
  | .bteDestAddr _ | .bteDestPos _ _ | .bteColorDepth _ _ _ | .bteAlpha _ | .bteDestWidth _ | .bteWidth _
  | .bteHeight _ | .setFgColor _ _ _ => true
  | _ => false

/-- The operations that need a completed `INIT_DISP`: toggles, text, cursor and BTE operations, as R244 lists them. R213's
row says "any display or BTE operation"; that the bring-up steps issued alone (`WAIT_READY`, `INIT_MEM`, the `SET_*` steps)
are none of these is the model's reading (DESIGN CHOICE, log entry 19). -/
def needsConfigured : Instr → Bool
  | .enableDisplay _ | .enableTestPattern _ | .enableTextMode _ | .writeText _ | .setTextCursorX _
  | .setTextCursorY _ | .getTextCursorY | .bteSetup _ _ | .bteStart | .bteWait | .fill _ _ _ => true
  | i => isFieldWriter i

/-- The register the last whole or broken command-write frame of a trace has selected (R24). That a status read leaves the
register selected, and that a data byte does not move it on, the spec leaves open (R24, R104, 91_not_in_source.md N6):
DESIGN CHOICE, log entry 20. -/
def selectedBy (sel : Option Byte) : List Event → Option Byte
  | [] => sel
  | .csLow :: .xfer m _ :: .xfer a _ :: es => selectedBy (if m = modeCmdw then some a else sel) es
  | _ :: es => selectedBy sel es

/-- The data-write frames among the positions of an expansion: the register selected and the number of payload bytes. A
write with no register selected is not among them. No status, data or burst frame changes which register is selected
(DESIGN CHOICE, log entry 20). -/
def dataWrites (sel : Option Byte) : Prog → List (Byte × Nat)
  | [] => []
  | .mark _ :: p => dataWrites sel p
  | .micro m :: p =>
    match m.act with
    | .cmdw a => dataWrites (some a) p
    | .datw _ | .datwRmw _ _ => (sel.map fun a => (a, 1)).toList ++ dataWrites sel p
    | .datwb ds => (sel.map fun a => (a, ds.length)).toList ++ dataWrites sel p
    | .datr _ | .stsr _ => dataWrites sel p

/-- A data write of `n` bytes with register `a` selected that breaks the protocol of a named register at `a` (R23): a
`W16` register written by a burst, or a `W32` group written otherwise than by one burst of four bytes at its base. That
a burst of one byte is a byte-wise write, and that a burst of another length or at another address of a `W32` group is
wrong, are the model's readings (log entry 19). A burst counts as a write at the register selected and nowhere else,
since where its later bytes land the spec leaves open (R43, 91_not_in_source.md N6): DESIGN CHOICE, log entry 20. A burst to a `W8` register, the data port or another, is none of R213's cases and counts as
no wrong write, though R122 uses the burst for `W32` registers only (DESIGN CHOICE, log entry 19). -/
def wrongWrite (m : RegMap) (w : Byte × Nat) : Bool :=
  Reg.all.any fun r => (WellFormed.occupied m r).contains w.1.toNat &&
    match r.widthClass with
    | .w8 => false
    | .w16 => 2 ≤ w.2
    | .w32 => !(m.addr r == w.1 && w.2 == 4)

/-- The registers whose raw writes bypass the ghost state (R248): the control registers and those of the BTE. -/
def ghostRegs : List Reg :=
  [.sdramCtrl, .dispCtrl, .textCtrl, .bteDestAddr, .bteDestX, .bteDestY, .bteColr, .bteAlpha, .bteDestWidth, .bteWidth,
   .bteHeight, .fgcR, .fgcG, .fgcB, .bteSetup, .bteCtrl]

/-- A data write with one of them selected. A burst that starts below such a register is not one, whatever its length:
where its later bytes land the spec leaves open (R43, 91_not_in_source.md N6; DESIGN CHOICE, log entry 20). -/
def ghostWrite (m : RegMap) (w : Byte × Nat) : Bool :=
  ghostRegs.any fun r => (WellFormed.occupied m r).contains w.1.toNat

/-- The operations by which the host writes a register of its own choice. -/
def isRawWrite : Instr → Bool
  | .datw _ | .datwb _ | .wr8 _ _ | .wr16 _ _ | .wr32 _ _ | .frameDataWrite _ | .frameDataBurst _ => true
  | _ => false

/-- An operation that writes the BTE descriptor or starts the engine (R192). -/
def touchesDescriptor : Instr → Bool
  | .bteSetup _ _ | .bteStart | .fill _ _ _ => true
  | i => isFieldWriter i

/-- A data frame the host issues itself. -/
def isRawData : Instr → Bool
  | .datw _ | .datr | .datwb _ => true
  | _ => false

/-- `WRITE_TEXT`. -/
def isText : Instr → Bool
  | .writeText _ => true
  | _ => false

/-- The violations operation `i` is when it is presented in state `s` (R213; its edges are log entries 12, 19 and 20). -/
def violations (s : State) (i : Instr) : List Violation :=
  let writes := dataWrites (selectedBy none s.trace) (expansion s.cfg i)
  (if i = .bteStart ∧ s.btePhase ≠ .setUp then [.startBeforeSetup] else []) ++
  (if touchesDescriptor i = true ∧ s.btePhase = .started then [.descriptorWhileStarted] else []) ++
  (if writes.any (wrongWrite s.cfg.regs) then [.wrongProtocol] else []) ++
  (if isRawData i && (selectedBy none s.trace).isNone then [.noRegisterSelected] else []) ++
  (if isText i = true ∧ s.textOn ≠ .on then [.textModeOff] else []) ++
  (if needsConfigured i = true ∧ s.lifecycle ≠ .configured then [.notConfigured] else []) ++
  (if isRawWrite i && writes.any (ghostWrite s.cfg.regs) then [.bypassesGhost] else [])

/-- The steps of `INIT_DISP` by their place in its order (R143). -/
def initPlace : Instr → Option Nat
  | .waitReady => some 1
  | .initMem => some 2
  | .setDisplaySize _ _ => some 3
  | .setBackPorch => some 4
  | .setFrontPorch => some 5
  | .setMainImageWidth => some 6
  | .setActiveWindow => some 7
  | .setCanvasWidth => some 8
  | .setPixelFormat => some 9
  | .setSyscfg => some 10
  | .setSyncPolarity => some 11
  | .setDisplayCtrl => some 12
  | _ => none

/-- The bring-up steps keep their order where `n` of them, the first `n`, have been issued before: each step that is
issued has been issued before or is the next one; `INIT_DISP` is all twelve. -/
def initOrderFrom (n : Nat) : List Instr → Bool
  | [] => true
  | .initDisp :: is => initOrderFrom 12 is
  | i :: is =>
    match initPlace i with
    | none => initOrderFrom n is
    | some k => k ≤ n + 1 && initOrderFrom (max n k) is

/-- A host that issues the bring-up steps keeps their order since reset (R213, R246). That a step issued again later is
no violation (R246 (e): "mutated only by re-running configuration registers") and that a step issued with an earlier one
left out is one are the model's readings (log entry 19). -/
def initOrderKept (is : List Instr) : Bool := initOrderFrom 0 is

end Sys2Proof.Safety
end

