-- ==== Sys2Proof/Certificates/Slice0/Obligations.lean ====
section
/-! DEFINITION. The statements for the provers, and the words they are written in. Frames and host words are written
out here from the spec's own tables, byte by byte, not taken from the model's expansions. -/

namespace Sys2Proof.Claim

open Sys2Proof Machine

/-- Operation `i` is running in `s`: latched, well formed, no fault, chip-select released (R11, R12). -/
def Running (i : Instr) (s : State) : Prop :=
  s.opv = true ∧ s.op = i ∧ s.fault = false ∧ s.cs = true ∧ WellFormed.check s.cfg i = none

/-- The bytes `bs` are the host word of `i` (R81). -/
def HostWord (bs : List Byte) (i : Instr) : Prop := encode i = bs ∧ ∀ rest, decode (bs ++ rest) = .done i rest

/-- `s` after one whole frame with the bytes `tx` (R100): one chip-select window in the trace, one answer used. -/
def afterFrame (tx : List Byte) (s : State) : State :=
  { s with
    trace := s.trace ++ (.csLow :: xfersFrom s 0 tx ++ [.csHigh])
    link := s.link.tail
    draws := s.draws + 1 }

/-- `s` after a frame with the bytes `tx` whose transfer failed (R100, R212): the drawn number of bytes went out, the
fault is recorded, the operation is over, chip-select is left at the drawn level, nothing else changes. -/
def afterFault (tx : List Byte) (e : LinkError) (s : State) : State :=
  { s with
    trace := s.trace ++ (.csLow :: (xfersFrom s 0 tx).take e.sent) ++ [.faulted]
    fault := true
    faultInfo := { op := s.op, seq := s.seq }
    result := .fault { op := s.op, seq := s.seq }
    opv := false
    cs := e.cs
    link := s.link.tail
    draws := s.draws + 1 }

/-- The step of operation `i` in `s` is one frame with the bytes `tx`: without a transfer error it answers a next state,
which is `ok` of the state after the frame; with one it takes the fault. -/
def FrameStep (i : Instr) (s : State) (tx : List Byte) (ok : State → State) : Prop :=
  (s.answer.err = none → exec i s = .next (ok (afterFrame tx s))) ∧
  ∀ e, s.answer.err = some e → exec i s = .next (afterFault tx e s)

/-- The operation goes on at position `n`. -/
def goOn (n : Nat) (u : State) : State := { u with seq := n }

/-- The operation completes at position `n` with result `r`: `OPV` is cleared (R12, R82). -/
def done (n : Nat) (r : Result) (u : State) : State := { u with seq := n, opv := false, result := r }

/-- Operation `i` sends the frames `fs`, one a step in order; after the last it completes with `Ok` and `fin` happens. -/
def Sends (i : Instr) (s : State) (fs : List (List Byte)) (fin : State → State) : Prop :=
  ∀ tx, fs[s.seq]? = some tx → FrameStep i s tx fun u =>
    if s.seq + 1 = fs.length then fin (done (s.seq + 1) .ok u) else goOn (s.seq + 1) u

/-- The frames of `WR8 a, v` (R47, R120). -/
def wr8Frames (a v : Byte) : List (List Byte) := [[0x00#8, a], [0x80#8, v]]

/-- The frames of `WR16 a, v` (R47, R121). -/
def wr16Frames (a : Byte) (v : Half) : List (List Byte) :=
  [[0x00#8, a], [0x80#8, v.extractLsb' 0 8], [0x00#8, a + 1#8], [0x80#8, v.extractLsb' 8 8]]

/-- The frames of `WR32 a, v` (R47, R122). -/
def wr32Frames (a : Byte) (v : Word) : List (List Byte) :=
  [[0x00#8, a],
   [0x80#8, v.extractLsb' 24 8, v.extractLsb' 16 8, v.extractLsb' 8 8, v.extractLsb' 0 8]]

/-- The frames of a `CFG_*` list (R142). -/
def listFrames : List RegWrite → List (List Byte)
  | [] => []
  | .w8 a v :: l => wr8Frames a v ++ listFrames l
  | .w16 a v :: l => wr16Frames a v ++ listFrames l
  | .w32 a v :: l => wr32Frames a v ++ listFrames l

/-- The step of operation `i` in `s`, where a delay of `ms` milliseconds is due after which `seq` is `start`: the block
requests it; while the request is pending the timer ends it, at once where its list of steps is empty, or lets it go on
for a step. Nothing else changes (R19, R222; that the timer's steps are listed and that past the list it ends the delay
are log entry 6). -/
def DelayStep (i : Instr) (s : State) (ms start : Nat) : Prop :=
  (s.timer = none → exec i s = .next { s with trace := s.trace ++ [.delay ms], timer := some ms }) ∧
  ∀ d, s.timer = some d →
    (s.timerIn = [] → exec i s = .next { s with timer := none, seq := start }) ∧
    (∀ r, s.timerIn = true :: r → exec i s = .next { s with timer := none, timerIn := r, seq := start }) ∧
    (∀ r, s.timerIn = false :: r → exec i s = .next { s with timerIn := r })

/-- The steps the timer takes to end a delay, where `l` lists whether it ends it at its coming steps. -/
def timerTakes : List Bool → Nat
  | [] => 1
  | true :: _ => 1
  | false :: l => timerTakes l + 1

/-- What is left of the timer's list when it has ended a delay. -/
def timerLeft : List Bool → List Bool
  | [] => []
  | true :: l => l
  | false :: l => timerLeft l

/-- The steps the timer takes to end `k` delays one after the other. -/
def timerTakesAll : Nat → List Bool → Nat
  | 0, _ => 0
  | k + 1, l => timerTakes l + timerTakesAll k (timerLeft l)

/-- What is left of the timer's list when it has ended `k` delays. -/
def timerLeftAll : Nat → List Bool → List Bool
  | 0, l => l
  | k + 1, l => timerLeftAll k (timerLeft l)

/-- A configuration step with list `l` (R142): its frames in list order, or no frame at all. -/
def ConfigStep (i : Instr) (s : State) (l : List RegWrite) (fin : State → State) : Prop :=
  Sends i s (listFrames l) fin ∧
  (l = [] → s.seq = 0 → exec i s = .next { s with opv := false, result := .ok })

/-- The bit of mask `m` reads `t` in `v` (R124). -/
def bitIs (v m : Byte) (t : Bool) : Prop := (v &&& m ≠ 0#8) ↔ t = true

/-- The mask has exactly one bit set. -/
def oneBit (m : Byte) : Prop := ∃ k : Nat, k < 8 ∧ m = 1#8 <<< k

/-- `s` as it is when `k` more frames have been answered, for the ports alone. -/
def later (k : Nat) (s : State) : State := { s with link := s.link.drop k, draws := s.draws + k }

/-- The next `n` frames are transferred without an error. -/
def Clean (n : Nat) (s : State) : Prop := ∀ k, k < n → (later k s).answer.err = none

/-- The events of the frame with the bytes `tx` if it is the `k`-th to come (from 0). -/
def window (s : State) (k : Nat) (tx : List Byte) : List Event :=
  .csLow :: xfersFrom (later k s) 0 tx ++ [.csHigh]

/-- The events of frames sent one after the other, the first being the `k`-th to come. -/
def windows (s : State) (k : Nat) : List (List Byte) → List Event
  | [] => []
  | tx :: fs => window s k tx ++ windows s (k + 1) fs

/-- `n` steps of the machine. -/
def runs (n : Nat) (s : State) : Host.Outcome State Fault Refusal := Host.Core.run Sys2Proof.core n s

/-- `s` with other ghost state. -/
def withGhost (b : BtePhase) (l : Lifecycle) (d t x : Toggle) (s : State) : State :=
  { s with btePhase := b, lifecycle := l, dispOn := d, testOn := t, textOn := x }

/-- Equal but for the ghost state. -/
def SameButGhost (s t : State) : Prop :=
  withGhost .idle .uninitialized .unknown .unknown .unknown s =
  withGhost .idle .uninitialized .unknown .unknown .unknown t

/-- The state a step answers, if it answers one, stands in relation `R` to the one another step answers, and the two
stop alike. -/
def Alike (R : State → State → Prop) :
    Host.Outcome State Fault Refusal → Host.Outcome State Fault Refusal → Prop
  | .next s, .next t => R s t
  | .fault f, .fault g => f = g
  | .refused r, .refused q => r = q
  | _, _ => False

/-- The write frames of `FILL` up to and with the setup write, in R191's order. -/
def fillWrites (c : Cfg) (r g b colr setup : Byte) : List (List Byte) :=
  wr32Frames c.regs.bteDestAddr c.bte.fillDestAddr ++ wr16Frames c.regs.bteDestX 0#16 ++
  wr16Frames c.regs.bteDestY 0#16 ++ wr8Frames c.regs.bteColr colr ++ wr8Frames c.regs.bteAlpha c.bte.fillAlpha ++
  wr16Frames c.regs.bteDestWidth c.display.width ++ wr16Frames c.regs.bteWidth c.display.width ++
  wr16Frames c.regs.bteHeight c.display.height ++ wr8Frames c.regs.fgcR r ++ wr8Frames c.regs.fgcG g ++
  wr8Frames c.regs.fgcB b ++ wr8Frames c.regs.bteSetup setup

/-- The frames of the configuration lists of steps 4 to 12 of `INIT_DISP` (R143). -/
def stepFrames (c : Cfg) : List (List Byte) :=
  listFrames c.steps.backPorch ++ listFrames c.steps.frontPorch ++ listFrames c.steps.mainImageWidth ++
  listFrames c.steps.activeWindow ++ listFrames c.steps.canvasWidth ++ listFrames c.steps.pixelFormat ++
  listFrames c.steps.syscfg ++ listFrames c.steps.syncPolarity ++ listFrames c.steps.displayCtrl

/-- The frames of `SET_DISPLAY_SIZE w, h` (R144). -/
def sizeFrames (c : Cfg) (w h : Half) : List (List Byte) :=
  wr8Frames c.regs.dispWidth (BitVec.ofNat 8 (w.toNat / 8 - 1)) ++
  wr16Frames c.regs.dispHeight (BitVec.ofNat 16 (h.toNat - 1))

/-- The write frames of `INIT_MEM` before its poll: the SDRAM list and the start write (R141). -/
def sdramFrames (c : Cfg) : List (List Byte) :=
  listFrames c.sdram.writes ++ wr8Frames c.regs.sdramCtrl c.sdram.startVal

/-- The write frames of `INIT_DISP` after the SDRAM poll: steps 3 to 12 (R143). -/
def bringUpFrames (c : Cfg) : List (List Byte) := sizeFrames c c.display.width c.display.height ++ stepFrames c

/-- The frames of one text chunk if both its polls see the awaited bit at once (R159). -/
def chunkFrames (c : Cfg) (ds : List Byte) : List (List Byte) :=
  [[0x40#8, c.wire.ph], [0x00#8, c.regs.dataPort], 0x80#8 :: ds, [0x40#8, c.wire.ph]]

/-- The 16-byte pieces of a text (R159). -/
def Pieces : List Byte → List (List Byte) → Prop
  | txt, [] => txt = []
  | txt, d :: ds => 1 ≤ d.length ∧ d.length ≤ 16 ∧ (ds ≠ [] → d.length = 16) ∧ ∃ rest, txt = d ++ rest ∧ Pieces rest ds

/-- What a poll of `k` failed attempts and one that succeeds sees, when the attempt is every `w`-th frame from the
`o`-th on. -/
def PollSees (s : State) (o w k : Nat) (m : Byte) (t : Bool) : Prop :=
  (∀ j, j < k → ¬ bitIs ((later (o + w * j) s).rxByte 1) m t) ∧ bitIs ((later (o + w * k) s).rxByte 1) m t

/-- Operation `i` is a read-modify-write of bit `m` of register `reg` (R127): the address, a read kept in `RX` and
`TMP`, the address again, and a write of the byte whose bit `m` is `e` and whose every other bit is as read; then it
completes with `Ok` and `fin` happens. -/
def Toggles (i : Instr) (s : State) (reg m : Byte) (e : Bool) (fin : State → State) : Prop :=
  (s.seq = 0 → FrameStep i s [0x00#8, reg] (goOn 1)) ∧
  (s.seq = 1 → FrameStep i s [0xC0#8, s.cfg.wire.ph] fun u =>
    goOn 2 { u with rx := s.rxByte 1, tmp := s.rxByte 1 }) ∧
  (s.seq = 2 → FrameStep i s [0x00#8, reg] (goOn 3)) ∧
  (s.seq = 3 → ∃ n : Byte, FrameStep i s [0x80#8, n] (fun u => fin (done 4 .ok u)) ∧
    n &&& ~~~m = s.tmp &&& ~~~m ∧ n &&& m = if e then m else 0#8)

/-- What is known of a toggle after the bit of `m` in `v` was written. -/
def toggleOf (v m : Byte) : Toggle := if v &&& m = 0#8 then .off else .on

/-- The entries of `CFG_DISPLAY_CTRL` are 8-bit writes of `REG_DISP_CTRL` (R153). -/
def WritesDispCtrl (c : Cfg) : Prop := ∀ w ∈ c.steps.displayCtrl, ∃ v, w = .w8 c.regs.dispCtrl v

/-- `disp_on` and `test_on` take their bits of the value last written to `REG_DISP_CTRL`, if one is (R153). -/
def ctrlToggles (c : Cfg) (u : State) : State :=
  match c.steps.displayCtrl.getLast? with
  | some (.w8 _ v) => { u with dispOn := toggleOf v c.display.onMask, testOn := toggleOf v c.display.colorBarMask }
  | _ => u

/-- The events of a delayed poll of `k + 1` attempts whose first frame is the `n`-th to come: two frames an attempt, a
delay between attempts (R141, R251). -/
def delayedPoll (s : State) (n k : Nat) : List Event :=
  (List.range k).flatMap (fun j => windows s (n + 2 * j) [[0x00#8, s.cfg.regs.sdramCtrl], [0xC0#8, s.cfg.wire.ph]] ++
    [.delay s.cfg.sdram.pollDelayMs]) ++
  windows s (n + 2 * k) [[0x00#8, s.cfg.regs.sdramCtrl], [0xC0#8, s.cfg.wire.ph]]

/-- The read at position `k` of operation `i` is a poll that goes on without a delay, and its byte `b` does not have the
awaited bit value (R124, R125, R140, R159, R190; the readiness poll of `INIT_DISP`, R143). -/
def PollMissed (c : Cfg) (i : Instr) (k : Nat) (b : Byte) : Prop :=
  (∃ a m t, i = .pollr a m t ∧ k = 1 ∧ ¬ bitIs b m t) ∨
  (∃ m t, i = .polls m t ∧ k = 0 ∧ ¬ bitIs b m t) ∨
  ((i = .waitReady ∨ i = .initDisp) ∧ k = 0 ∧ ¬ bitIs b c.status.readyMask c.status.readyLevel) ∨
  (i = .bteWait ∧ k = 1 ∧ ¬ bitIs b c.bte.busyMask (!c.bte.busyLevel)) ∨
  ∃ txt, i = .writeText txt ∧
    (k % 4 = 0 ∧ ¬ bitIs b c.status.wfifoMask c.status.wfifoEmptyLevel ∨
     k % 4 = 3 ∧ ¬ bitIs b c.status.busyMask (!c.status.busyLevel))

/-- `bte_phase` after a field writer (R180, R248). -/
def fieldPhase (p : BtePhase) : BtePhase := if p = .started then .started else .configuring

/-- `bte_phase` after the `n`-th frame of `FILL` (from 1), where it was `p` before it: the field writers end with frames
2, 10, 12, 14, 18, 22, 26 and 32, the setup write with frame 34 (R191). -/
def fillPhase (n : Nat) (p : BtePhase) : BtePhase :=
  if n ∈ [2, 10, 12, 14, 18, 22, 26, 32] then fieldPhase p
  else if n = 34 ∧ p ≠ .started then .setUp
  else p

end Sys2Proof.Claim

open Sys2Proof Sys2Proof.Machine Sys2Proof.Claim

/-! ### Reset, the host port, the step -/

/-- R240, the values the spec gives: what the state is after reset, for every configuration. (The values of `OP`,
`RESULT`, `RX`, `TMP`, `FAULT_INFO` are the model's, log entry 2, and are not stated.) -/
def Obligations.ResetGivesTheSpecsValues : Prop :=
  ∀ c, (State.resetWith c).cs = true ∧ (State.resetWith c).opv = false ∧ (State.resetWith c).seq = 0 ∧
    (State.resetWith c).fault = false ∧ (State.resetWith c).trace = [] ∧ (State.resetWith c).btePhase = .idle ∧
    (State.resetWith c).lifecycle = .uninitialized ∧ (State.resetWith c).dispOn = .unknown ∧
    (State.resetWith c).testOn = .unknown ∧ (State.resetWith c).textOn = .unknown ∧ (State.resetWith c).cfg = c

/-- R240, R217: the reset input ends a running operation and clears a fault, from every state. The model's own, log
entry 8 (DESIGN CHOICE): what is lined up at the ports and the configuration stay as they are, and one reading of the
reset input is used; log entry 6: no delay is pending afterwards. -/
def Obligations.ResetInputResetsFromEveryState : Prop :=
  ∀ (s : State) r, s.resetIn = true :: r → ∃ t, step s = .next t ∧
    t.cs = true ∧ t.opv = false ∧ t.seq = 0 ∧ t.fault = false ∧ t.trace = [] ∧ t.btePhase = .idle ∧
    t.lifecycle = .uninitialized ∧ t.dispOn = .unknown ∧ t.testOn = .unknown ∧ t.textOn = .unknown ∧ t.timer = none ∧
    t.cfg = s.cfg ∧ t.hostIn = s.hostIn ∧ t.resetIn = r ∧ t.timerIn = s.timerIn ∧ t.link = s.link ∧ t.draws = s.draws

/-- The step of an idle block whose host bytes decode to an operation is that operation's `exec` at the state in which it
is latched: `OPV` set, `OP` the operation, `seq` 0, its bytes taken (R12). That latching and the first position are one
step is the model's choice, log entry 4 (DESIGN CHOICE). -/
def Obligations.StepRunsTheDecodedOperation : Prop :=
  ∀ (s : State) i rest, s.resetIn.headD false = false → s.fault = false → s.opv = false →
    decode s.hostIn = .done i rest →
    step s = exec i { s with opv := true, op := i, seq := 0, hostIn := rest, resetIn := s.resetIn.tail }

/-- The step of a block that runs an operation is that operation's `exec` (R15); no further operation is taken (R12). -/
def Obligations.StepGoesOnWithTheRunningOperation : Prop :=
  ∀ (s : State) i, s.resetIn.headD false = false → Running i s →
    step s = exec i { s with resetIn := s.resetIn.tail }

/-- The model's choice, log entry 9 (DESIGN CHOICE): an idle block (R223) with no host bytes waits, and nothing but the
reading of the reset input changes. -/
def Obligations.IdleBlockWaits : Prop :=
  ∀ s : State, s.resetIn.headD false = false → s.fault = false → s.opv = false → s.hostIn = [] →
    step s = .next { s with resetIn := s.resetIn.tail }

/-- R17, R217: a block with `FAULT = 1` runs nothing and takes nothing from the host. The model's own, log entries 8
(DESIGN CHOICE) and 10 (DEDUCED): it waits while readings of the reset input are left, and stops under `faultLatched`
where none is left. -/
def Obligations.FaultedBlockOnlyWaitsForReset : Prop :=
  ∀ s : State, s.fault = true →
    (s.resetIn = [] → step s = .fault .faultLatched) ∧
    (∀ r, s.resetIn = false :: r → step s = .next { s with resetIn := r })

/-- R12: a step takes host bytes only from an idle block without a fault, and then exactly the bytes of the operation it
latches. -/
def Obligations.HostBytesAreTakenOnlyWhenIdle : Prop :=
  ∀ s t : State, step s = .next t → t.hostIn ≠ s.hostIn →
    s.opv = false ∧ s.fault = false ∧ s.resetIn.headD false = false ∧
    decode s.hostIn = .done t.op t.hostIn ∧ s.hostIn = encode t.op ++ t.hostIn

/-! ### Encodings -/

/-- Host words written out from R81's patterns and the spec's table of host words decode to their operations. -/
def Obligations.WrittenOutHostWordsDecode : Prop :=
  decode [0x00#8, 0x12#8] = .done (.cmdw 0x12#8) [] ∧
  decode [0x81#8, 0x01#8, 0xAA#8] = .done (.datwb [0xAA#8]) [] ∧
  decode [0x11#8, 0x1A#8, 0x02#8, 0x57#8] = .done (.wr16 0x1A#8 599#16) [] ∧
  decode [0x12#8, 0xA7#8, 0x00#8, 0x12#8, 0x34#8, 0x56#8] = .done (.wr32 0xA7#8 0x00123456#32) [] ∧
  decode [0x14#8, 0x90#8, 0x10#8, 0x00#8] = .done (.pollr 0x90#8 0x10#8 false) [] ∧
  decode [0x23#8, 0x04#8, 0x00#8, 0x02#8, 0x58#8] = .done (.setDisplaySize 1024#16 600#16) [] ∧
  decode [0x30#8, 0x01#8] = .done (.enableDisplay true) [] ∧
  decode [0x33#8, 0x00#8, 0x01#8, 0x47#8] = .done (.writeText [0x47#8]) [] ∧
  decode [0x51#8, 0x01#8, 0x02#8, 0x03#8, 0x04#8] = .done (.bteDestPos 0x0102#16 0x0304#16) [] ∧
  decode [0x5B#8, 0x00#8, 0x00#8, 0xFF#8] = .done (.fill 0x00#8 0x00#8 0xFF#8) [] ∧
  decode [0x30#8, 0x02#8] = .rejected (.flagByte 0x02#8) ∧
  decode [0x01#8] = .rejected (.reservedOpcode 0x01#8) ∧
  decodeFrame [0x00#8, 0x12#8] = some (.frameCommandWrite 0x12#8) ∧
  decodeFrame [0x40#8, 0x00#8] = some (.frameStatusRead 0x00#8) ∧
  decodeFrame [0x80#8, 0x40#8] = some (.frameDataWrite 0x40#8) ∧
  decodeFrame [0xC0#8, 0x00#8] = some (.frameDataRead 0x00#8) ∧
  decodeFrame [0x80#8, 0x00#8, 0x12#8, 0x34#8, 0x56#8] = some (.frameDataBurst [0x00#8, 0x12#8, 0x34#8, 0x56#8])

/-- R81: every well-formed host operation, with every operand at every value, is what its own word decodes to, whatever
bytes follow. -/
def Obligations.DecodeOfEncodeIsTheOperation : Prop :=
  ∀ (c : Cfg) (i : Instr), i.isFrame = false → WellFormed.check c i = none →
    ∀ rest, decode (encode i ++ rest) = .done i rest

/-- R81: each host word has one meaning; the bytes decoded are the encoding of the operation read, and no operation of
the host encoding is a frame. -/
def Obligations.EncodeOfDecodeIsTheWord : Prop :=
  ∀ bs i rest, decode bs = .done i rest → i.isFrame = false ∧ bs = encode i ++ rest

/-- R75: a frame of any kind, a burst of two payload bytes or more, is what a bus monitor reads from its bytes; and what
it reads from any bytes encodes to them. -/
def Obligations.FramesDecodeAndEncode : Prop :=
  (∀ i : Instr, i.isFrame = true → (∀ ds, i = .frameDataBurst ds → 2 ≤ ds.length) → decodeFrame (encode i) = some i) ∧
  (∀ tx i, decodeFrame tx = some i → i.isFrame = true ∧ encode i = tx)

/-- R78, R81: the opcode bytes of R81's table are read as operations and every other one is refused, by the decoder and
by the step of an idle block. -/
def Obligations.ReservedOpcodesAreRefused : Prop :=
  ∀ (op : Byte) (bs : List Byte),
    op.toNat ∉ [0x00, 0x40, 0x80, 0xC0, 0x81, 0x10, 0x11, 0x12, 0x13, 0x14, 0x15, 0x20, 0x21, 0x22, 0x23, 0x24, 0x25,
      0x26, 0x27, 0x28, 0x29, 0x2A, 0x2B, 0x2C, 0x30, 0x31, 0x32, 0x33, 0x34, 0x35, 0x36, 0x50, 0x51, 0x52, 0x53, 0x54,
      0x55, 0x56, 0x57, 0x58, 0x59, 0x5A, 0x5B] →
    decode (op :: bs) = .rejected (.reservedOpcode op) ∧
    ∀ s : State, s.resetIn.headD false = false → s.fault = false → s.opv = false → s.hostIn = op :: bs →
      step s = .refused (.notAnOperation (.reservedOpcode op))

/-! ### Well-formedness -/

/-- R46, R78, R85: an operation that breaks a check gets no step and is refused by the check's name. That checks are also
made on the parameters an operation uses, and that the first broken one in the model's order names the refusal (the width
before the height), are log entry 11 (DEDUCED). -/
def Obligations.IllFormedOperationsAreRefusedByName : Prop :=
  (∀ (s : State) i c, WellFormed.check s.cfg i = some c → exec i s = .refused (.illFormed c)) ∧
  (∀ (s : State) v, exec (.wr16 0xFF#8 v) s = .refused (.illFormed .w16Base)) ∧
  (∀ (s : State) a m t, ¬ oneBit m → exec (.pollr a m t) s = .refused (.illFormed .oneBitMask)) ∧
  (∀ (s : State) m t, ¬ oneBit m → exec (.polls m t) s = .refused (.illFormed .oneBitMask)) ∧
  (∀ (s : State) ds, ¬ (1 ≤ ds.length ∧ ds.length ≤ 255) → exec (.datwb ds) s = .refused (.illFormed .burstLen)) ∧
  (∀ (s : State) (w h : Half), ¬ (w.toNat % 8 = 0 ∧ 8 ≤ w.toNat ∧ w.toNat ≤ 2048) →
    exec (.setDisplaySize w h) s = .refused (.illFormed .sizeWidth)) ∧
  (∀ (s : State) (w : Half), w.toNat % 8 = 0 ∧ 8 ≤ w.toNat ∧ w.toNat ≤ 2048 →
    exec (.setDisplaySize w 0#16) s = .refused (.illFormed .sizeHeight)) ∧
  (∀ (s : State) txt, 65535 < txt.length → exec (.writeText txt) s = .refused (.illFormed .textLen)) ∧
  (∀ (s : State) s0 s1 d, s.cfg.bte.colr s0 s1 d = none → exec (.bteColorDepth s0 s1 d) s = .refused (.illFormed .codes)) ∧
  (∀ (s : State) rop opc, s.cfg.bte.setup rop opc = none → exec (.bteSetup rop opc) s = .refused (.illFormed .codes))

/-- R85, R20: under a well-formed configuration only operands can make a host operation ill formed: every one without
operand restrictions is well formed, and each with a restriction is so exactly within it. (What the premise
`WellFormed.cfg` says beyond R20's words, and the checks on parameters, are log entries 14 and 11, DEDUCED.) -/
def Obligations.WellFormedConfigurationAdmitsOperations : Prop :=
  ∀ c : Cfg, WellFormed.cfg c = true →
    (∀ i ∈ [Instr.stsr, .datr, .waitReady, .initMem, .initDisp, .setBackPorch, .setFrontPorch, .setMainImageWidth,
        .setActiveWindow, .setCanvasWidth, .setPixelFormat, .setSyscfg, .setSyncPolarity, .setDisplayCtrl,
        .getTextCursorY, .bteStart, .bteWait], WellFormed.check c i = none) ∧
    (∀ a, WellFormed.check c (.cmdw a) = none ∧ WellFormed.check c (.datw a) = none ∧ WellFormed.check c (.rd8 a) = none ∧
      WellFormed.check c (.bteAlpha a) = none) ∧
    (∀ a v, WellFormed.check c (.wr8 a v) = none) ∧
    (∀ a v, WellFormed.check c (.wr32 a v) = none) ∧
    (∀ v, WellFormed.check c (.bteDestAddr v) = none) ∧
    (∀ e, WellFormed.check c (.enableDisplay e) = none ∧ WellFormed.check c (.enableTestPattern e) = none ∧
      WellFormed.check c (.enableTextMode e) = none) ∧
    (∀ v, WellFormed.check c (.setTextCursorX v) = none ∧ WellFormed.check c (.setTextCursorY v) = none ∧
      WellFormed.check c (.bteDestWidth v) = none ∧ WellFormed.check c (.bteWidth v) = none ∧
      WellFormed.check c (.bteHeight v) = none) ∧
    (∀ x y, WellFormed.check c (.bteDestPos x y) = none) ∧
    (∀ r g b, WellFormed.check c (.fill r g b) = none ∧ WellFormed.check c (.setFgColor r g b) = none) ∧
    (∀ txt, txt.length ≤ 65535 ↔ WellFormed.check c (.writeText txt) = none) ∧
    (∀ a v, a ≠ 0xFF#8 ↔ WellFormed.check c (.wr16 a v) = none) ∧
    (∀ a m t, oneBit m ↔ WellFormed.check c (.pollr a m t) = none) ∧
    (∀ m t, oneBit m ↔ WellFormed.check c (.polls m t) = none) ∧
    (∀ ds, (1 ≤ ds.length ∧ ds.length ≤ 255) ↔ WellFormed.check c (.datwb ds) = none) ∧
    (∀ w h : Half, (w.toNat % 8 = 0 ∧ 8 ≤ w.toNat ∧ w.toNat ≤ 2048 ∧ 1 ≤ h.toNat) ↔
      WellFormed.check c (.setDisplaySize w h) = none) ∧
    (∀ s0 s1 d, c.bte.colr s0 s1 d ≠ none ↔ WellFormed.check c (.bteColorDepth s0 s1 d) = none) ∧
    (∀ rop opc, c.bte.setup rop opc ≠ none ↔ WellFormed.check c (.bteSetup rop opc) = none)

/-! ### Transport -/

/-- R101, R102, R105: command write, data write and burst are one frame each and complete with `Ok`; nothing else changes.
The three clauses for wire frames run as operations of their own, and the length check of the burst frame, are log
entries 15 and 11 (DEDUCED). -/
def Obligations.TransportWritesAreOneFrame : Prop :=
  ∀ s : State, s.seq = 0 →
    (∀ a, HostWord [0x00#8, a] (.cmdw a) ∧ (Running (.cmdw a) s → Sends (.cmdw a) s [[0x00#8, a]] id)) ∧
    (∀ d, HostWord [0x80#8, d] (.datw d) ∧ (Running (.datw d) s → Sends (.datw d) s [[0x80#8, d]] id)) ∧
    (∀ ds, (ds.length ≤ 255 → HostWord (0x81#8 :: BitVec.ofNat 8 ds.length :: ds) (.datwb ds)) ∧
      (Running (.datwb ds) s → Sends (.datwb ds) s [0x80#8 :: ds] id)) ∧
    (∀ a, Running (.frameCommandWrite a) s → Sends (.frameCommandWrite a) s [[0x00#8, a]] id) ∧
    (∀ d, Running (.frameDataWrite d) s → Sends (.frameDataWrite d) s [[0x80#8, d]] id) ∧
    (∀ ds, Running (.frameDataBurst ds) s → Sends (.frameDataBurst ds) s [0x80#8 :: ds] id)

/-- R73, R103, R104: data read and status read are one frame; response byte 1 goes to `RX` and is the result; response
byte 0 matters to nothing but the trace; on an error `RX` is not written. The two clauses for wire frames, with any
placeholder, run as operations with result `OkByte`, are log entry 15 (DEDUCED). -/
def Obligations.TransportReadsKeepResponseByteOne : Prop :=
  ∀ s : State, s.seq = 0 →
    (HostWord [0xC0#8] .datr ∧ (Running .datr s → FrameStep .datr s [0xC0#8, s.cfg.wire.ph] fun u =>
      done 1 (.okByte (s.rxByte 1)) { u with rx := s.rxByte 1 })) ∧
    (HostWord [0x40#8] .stsr ∧ (Running .stsr s → FrameStep .stsr s [0x40#8, s.cfg.wire.ph] fun u =>
      done 1 (.okByte (s.rxByte 1)) { u with rx := s.rxByte 1 })) ∧
    (∀ p, Running (.frameDataRead p) s → FrameStep (.frameDataRead p) s [0xC0#8, p] fun u =>
      done 1 (.okByte (s.rxByte 1)) { u with rx := s.rxByte 1 }) ∧
    (∀ p, Running (.frameStatusRead p) s → FrameStep (.frameStatusRead p) s [0x40#8, p] fun u =>
      done 1 (.okByte (s.rxByte 1)) { u with rx := s.rxByte 1 })

/-! ### Register access -/

/-- R120, R121, R122: the three register writes send exactly their frames, one a step, low byte before high byte for the
pair and most significant byte first in one burst for the group, and complete with `Ok`; nothing else changes. -/
def Obligations.RegisterWritesSendTheirFrames : Prop :=
  ∀ s : State,
    (∀ a v, HostWord [0x10#8, a, v] (.wr8 a v) ∧ (Running (.wr8 a v) s → Sends (.wr8 a v) s (wr8Frames a v) id)) ∧
    (∀ a (v : Half), HostWord [0x11#8, a, v.extractLsb' 8 8, v.extractLsb' 0 8] (.wr16 a v) ∧
      (Running (.wr16 a v) s → Sends (.wr16 a v) s (wr16Frames a v) id) ∧
      (a = 0xFF#8 → exec (.wr16 a v) s = .refused (.illFormed .w16Base))) ∧
    (∀ a (v : Word), HostWord [0x12#8, a, v.extractLsb' 24 8, v.extractLsb' 16 8, v.extractLsb' 8 8, v.extractLsb' 0 8]
        (.wr32 a v) ∧
      (Running (.wr32 a v) s → Sends (.wr32 a v) s (wr32Frames a v) id))

/-- R121, R122, DOC's two byte-order properties: with no transfer error a whole `WR16` is four windows, the low byte at
the address and the high byte at the next, and a whole `WR32` is two, the second the four bytes most significant first;
each completes with `Ok` and nothing else changes. -/
def Obligations.PairedAndBurstWritesRunWhole : Prop :=
  ∀ s : State, s.seq = 0 → s.resetIn = [] →
    (∀ a (v : Half), Running (.wr16 a v) s → Clean 4 s →
      runs 4 s = .next { s with
        trace := s.trace ++ windows s 0 (wr16Frames a v)
        seq := 4
        opv := false
        result := .ok
        link := s.link.drop 4
        draws := s.draws + 4 }) ∧
    (∀ a (v : Word), Running (.wr32 a v) s → Clean 2 s →
      runs 2 s = .next { s with
        trace := s.trace ++ windows s 0 (wr32Frames a v)
        seq := 2
        opv := false
        result := .ok
        link := s.link.drop 2
        draws := s.draws + 2 })

/-- R123: `RD8` sends the address, then reads; the byte goes to `RX` and is the result. -/
def Obligations.RegisterReadReturnsTheByteRead : Prop :=
  ∀ (s : State) a, HostWord [0x13#8, a] (.rd8 a) ∧ (Running (.rd8 a) s →
    (s.seq = 0 → FrameStep (.rd8 a) s [0x00#8, a] (goOn 1)) ∧
    (s.seq = 1 → FrameStep (.rd8 a) s [0xC0#8, s.cfg.wire.ph] fun u =>
      done 2 (.okByte (s.rxByte 1)) { u with rx := s.rxByte 1 }))

/-- R124: an attempt of `POLLR` is a full `RD8`; it completes when the byte just read has the awaited bit value and goes
back to its start when not, with no delay and no count; a mask of no or several bits is refused. -/
def Obligations.RegisterPollRepeatsUntilTheBit : Prop :=
  ∀ (s : State) a m t, HostWord [0x14#8, a, m, if t then 1#8 else 0#8] (.pollr a m t) ∧
    (¬ oneBit m → exec (.pollr a m t) s = .refused (.illFormed .oneBitMask)) ∧
    (Running (.pollr a m t) s →
      (s.seq = 0 → FrameStep (.pollr a m t) s [0x00#8, a] (goOn 1)) ∧
      (s.seq = 1 → bitIs (s.rxByte 1) m t → FrameStep (.pollr a m t) s [0xC0#8, s.cfg.wire.ph] fun u =>
        done 2 .ok { u with rx := s.rxByte 1 }) ∧
      (s.seq = 1 → ¬ bitIs (s.rxByte 1) m t → FrameStep (.pollr a m t) s [0xC0#8, s.cfg.wire.ph] fun u =>
        goOn 0 { u with rx := s.rxByte 1 }))

/-- R125, R140: an attempt of `POLLS`, and of `WAIT_READY` with the ready bit's parameters, is one status read; it
completes when the byte just read has the awaited bit value and stays at its start when not. -/
def Obligations.StatusPollsRepeatUntilTheBit : Prop :=
  ∀ s : State, s.seq = 0 →
    (∀ m t, HostWord [0x15#8, m, if t then 1#8 else 0#8] (.polls m t) ∧
      (¬ oneBit m → exec (.polls m t) s = .refused (.illFormed .oneBitMask)) ∧
      (Running (.polls m t) s →
        (bitIs (s.rxByte 1) m t → FrameStep (.polls m t) s [0x40#8, s.cfg.wire.ph] fun u =>
          done 1 .ok { u with rx := s.rxByte 1 }) ∧
        (¬ bitIs (s.rxByte 1) m t → FrameStep (.polls m t) s [0x40#8, s.cfg.wire.ph] fun u =>
          goOn 0 { u with rx := s.rxByte 1 }))) ∧
    HostWord [0x20#8] .waitReady ∧
    (Running .waitReady s →
      (bitIs (s.rxByte 1) s.cfg.status.readyMask s.cfg.status.readyLevel →
        FrameStep .waitReady s [0x40#8, s.cfg.wire.ph] fun u => done 1 .ok { u with rx := s.rxByte 1 }) ∧
      (¬ bitIs (s.rxByte 1) s.cfg.status.readyMask s.cfg.status.readyLevel →
        FrameStep .waitReady s [0x40#8, s.cfg.wire.ph] fun u => goOn 0 { u with rx := s.rxByte 1 }))

/-! ### Display controller -/

/-- R142, R145 to R152: the eight configuration steps without ghost effect send the frames of their list in list order
and complete with `Ok`; with an empty list they complete with no frame. -/
def Obligations.ConfigurationStepsSendTheirLists : Prop :=
  ∀ s : State,
    (HostWord [0x24#8] .setBackPorch ∧ (Running .setBackPorch s → ConfigStep .setBackPorch s s.cfg.steps.backPorch id)) ∧
    (HostWord [0x25#8] .setFrontPorch ∧
      (Running .setFrontPorch s → ConfigStep .setFrontPorch s s.cfg.steps.frontPorch id)) ∧
    (HostWord [0x26#8] .setMainImageWidth ∧
      (Running .setMainImageWidth s → ConfigStep .setMainImageWidth s s.cfg.steps.mainImageWidth id)) ∧
    (HostWord [0x27#8] .setActiveWindow ∧
      (Running .setActiveWindow s → ConfigStep .setActiveWindow s s.cfg.steps.activeWindow id)) ∧
    (HostWord [0x28#8] .setCanvasWidth ∧
      (Running .setCanvasWidth s → ConfigStep .setCanvasWidth s s.cfg.steps.canvasWidth id)) ∧
    (HostWord [0x29#8] .setPixelFormat ∧
      (Running .setPixelFormat s → ConfigStep .setPixelFormat s s.cfg.steps.pixelFormat id)) ∧
    (HostWord [0x2A#8] .setSyscfg ∧ (Running .setSyscfg s → ConfigStep .setSyscfg s s.cfg.steps.syscfg id)) ∧
    (HostWord [0x2B#8] .setSyncPolarity ∧
      (Running .setSyncPolarity s → ConfigStep .setSyncPolarity s s.cfg.steps.syncPolarity id))

/-- R153: `SET_DISPLAY_CTRL`, whose entries address `REG_DISP_CTRL`, sends the frames of its list and, at completion,
`disp_on` and `test_on` take the values of their bits in the value last written to `REG_DISP_CTRL`; with an empty list
nothing is sent and neither changes. That the last of several writes counts, and that an empty list changes neither
toggle, is log entry 13 (DEDUCED). -/
def Obligations.DisplayControlWriteSetsTheToggles : Prop :=
  ∀ s : State, HostWord [0x2C#8] .setDisplayCtrl ∧ (Running .setDisplayCtrl s → WritesDispCtrl s.cfg →
    ConfigStep .setDisplayCtrl s s.cfg.steps.displayCtrl (ctrlToggles s.cfg))

/-- R144, R154: `SET_DISPLAY_SIZE` writes `(w / 8) - 1` to the width register, then `h - 1` to the height pair, low byte
first; a width that is no multiple of 8 is refused; DOC's example gives 127 and 599. -/
def Obligations.DisplaySizeIsEncodedExactly : Prop :=
  (∀ (s : State) (w h : Half),
    HostWord [0x23#8, w.extractLsb' 8 8, w.extractLsb' 0 8, h.extractLsb' 8 8, h.extractLsb' 0 8] (.setDisplaySize w h) ∧
    (Running (.setDisplaySize w h) s →
      Sends (.setDisplaySize w h) s (sizeFrames s.cfg w h) id ∧
      (BitVec.ofNat 8 (w.toNat / 8 - 1)).toNat = w.toNat / 8 - 1 ∧ 8 * (w.toNat / 8 - 1) + 8 = w.toNat ∧
      (BitVec.ofNat 16 (h.toNat - 1)).toNat + 1 = h.toNat) ∧
    (w.toNat % 8 ≠ 0 → exec (.setDisplaySize w h) s = .refused (.illFormed .sizeWidth))) ∧
  ∀ c : Cfg, sizeFrames c 1024#16 600#16 = wr8Frames c.regs.dispWidth 127#8 ++ wr16Frames c.regs.dispHeight 599#16

/-- R141: `INIT_MEM`: `lifecycle` is `SdramInitializing` from its first step on; the SDRAM list and the start write go
out in order; then each attempt reads the control register; an attempt that sees the done bit completes with `Ok`; after
one that does not, a delay is due, and when the timer has ended it the next attempt begins. The model's own: `lifecycle`
stays where the very first frame fails (log entry 17, DEDUCED); the timer's steps (log entry 6, DEDUCED). -/
def Obligations.SdramInitialisationPollsWithDelays : Prop :=
  ∀ s : State, HostWord [0x21#8] .initMem ∧ (Running .initMem s → (s.seq = 0 ∨ s.lifecycle = .sdramInitializing) →
    ∀ n, n = (sdramFrames s.cfg).length →
    (∀ tx, (sdramFrames s.cfg)[s.seq]? = some tx →
      (s.answer.err = none → exec .initMem s =
        .next (goOn (s.seq + 1) (afterFrame tx { s with lifecycle := .sdramInitializing }))) ∧
      (∀ e, s.answer.err = some e → exec .initMem s =
        .next (afterFault tx e { s with lifecycle := .sdramInitializing }))) ∧
    (s.seq = n → FrameStep .initMem s [0x00#8, s.cfg.regs.sdramCtrl] (goOn (n + 1))) ∧
    (s.seq = n + 1 → bitIs (s.rxByte 1) s.cfg.sdram.doneMask s.cfg.sdram.doneLevel →
      FrameStep .initMem s [0xC0#8, s.cfg.wire.ph] fun u => done (n + 2) .ok { u with rx := s.rxByte 1 }) ∧
    (s.seq = n + 1 → ¬ bitIs (s.rxByte 1) s.cfg.sdram.doneMask s.cfg.sdram.doneLevel →
      FrameStep .initMem s [0xC0#8, s.cfg.wire.ph] fun u => goOn (n + 2) { u with rx := s.rxByte 1 }) ∧
    (s.seq = n + 2 → ¬ bitIs s.rx s.cfg.sdram.doneMask s.cfg.sdram.doneLevel →
      DelayStep .initMem s s.cfg.sdram.pollDelayMs n))

/-- R143: every position of `INIT_DISP`. The readiness poll repeats a status read and, when it succeeds, `lifecycle` is
`SdramInitializing`; the SDRAM list and the start write go out in order; each SDRAM attempt reads the control register,
and after one that does not see the done bit a delay is due; then the frames of the display size and of the nine lists,
in that order; the last completes the operation with `Ok` and `lifecycle = Configured`, and the toggles follow the value
last written to `REG_DISP_CTRL` (R153: the entries of that list address it). A fault at any position leaves `lifecycle`.
The model's own: which write the toggles follow (log entry 13, DEDUCED), the step in which `lifecycle` changes (log
entry 17, DEDUCED), the timer's steps (log entry 6, DEDUCED). -/
def Obligations.BringUpWritesInOrderAndConfigures : Prop :=
  ∀ s : State, HostWord [0x22#8] .initDisp ∧
    (Running .initDisp s → ∀ k, k = (sdramFrames s.cfg).length →
    (s.seq = 0 → bitIs (s.rxByte 1) s.cfg.status.readyMask s.cfg.status.readyLevel →
      FrameStep .initDisp s [0x40#8, s.cfg.wire.ph] fun u =>
        goOn 1 { u with rx := s.rxByte 1, lifecycle := .sdramInitializing }) ∧
    (s.seq = 0 → ¬ bitIs (s.rxByte 1) s.cfg.status.readyMask s.cfg.status.readyLevel →
      FrameStep .initDisp s [0x40#8, s.cfg.wire.ph] fun u => goOn 0 { u with rx := s.rxByte 1 }) ∧
    (∀ n tx, s.seq = 1 + n → (sdramFrames s.cfg)[n]? = some tx → FrameStep .initDisp s tx (goOn (s.seq + 1))) ∧
    (s.seq = k + 1 → FrameStep .initDisp s [0x00#8, s.cfg.regs.sdramCtrl] (goOn (k + 2))) ∧
    (s.seq = k + 2 → FrameStep .initDisp s [0xC0#8, s.cfg.wire.ph] fun u => goOn (k + 3) { u with rx := s.rxByte 1 }) ∧
    (s.seq = k + 3 → ¬ bitIs s.rx s.cfg.sdram.doneMask s.cfg.sdram.doneLevel →
      DelayStep .initDisp s s.cfg.sdram.pollDelayMs (k + 1)) ∧
    (WritesDispCtrl s.cfg → ∀ n tx, s.seq = k + 3 + n → (bringUpFrames s.cfg)[n]? = some tx →
      (n = 0 → bitIs s.rx s.cfg.sdram.doneMask s.cfg.sdram.doneLevel) →
      FrameStep .initDisp s tx fun u =>
        if n + 1 = (bringUpFrames s.cfg).length then
          ctrlToggles s.cfg { done (s.seq + 1) .ok u with lifecycle := .configured }
        else goOn (s.seq + 1) u))

/-- R143: a whole `INIT_DISP`: the readiness poll, the SDRAM writes and start, the SDRAM poll with a delay between
attempts, the writes of steps 3 to 12, for every number of attempts of the two polls and every number of steps the timer
takes for each delay. It rests on log entry 6 (DEDUCED): the timer ends every delay, the assumption R222 asks for. -/
def Obligations.BringUpRunsItsTwelveSteps : Prop :=
  ∀ (s : State) j k, Running .initDisp s → s.seq = 0 → s.resetIn = [] → s.timer = none →
    ∀ pre, pre = sdramFrames s.cfg →
    PollSees s 0 1 j s.cfg.status.readyMask s.cfg.status.readyLevel →
    PollSees s (j + 1 + pre.length + 1) 2 k s.cfg.sdram.doneMask s.cfg.sdram.doneLevel →
    Clean (j + 1 + pre.length + 2 * (k + 1) + (bringUpFrames s.cfg).length) s →
    ∃ t, runs (j + 1 + pre.length + (3 * k + 2) + timerTakesAll k s.timerIn + (bringUpFrames s.cfg).length) s = .next t ∧
      t.opv = false ∧ t.result = .ok ∧ t.fault = false ∧ t.cs = true ∧ t.lifecycle = .configured ∧
      t.btePhase = s.btePhase ∧ t.textOn = s.textOn ∧ t.tmp = s.tmp ∧ t.timer = none ∧
      t.timerIn = timerLeftAll k s.timerIn ∧
      t.seq = 1 + pre.length + 2 + (bringUpFrames s.cfg).length ∧
      t.trace = s.trace ++ windows s 0 (List.replicate (j + 1) [0x40#8, s.cfg.wire.ph] ++ pre) ++
        delayedPoll s (j + 1 + pre.length) k ++
        windows s (j + 1 + pre.length + 2 * (k + 1)) (bringUpFrames s.cfg)

/-- R251, R141: an `INIT_MEM` poll of `k + 1` attempts contributes `2 (k + 1)` frames and `k` delays, alternating; it
ends with `Ok`, however many steps the timer takes for each delay. It rests on log entry 6 (DEDUCED): the timer ends
every delay, the assumption R222 asks for. -/
def Obligations.SdramPollOfManyAttempts : Prop :=
  ∀ (s : State) k, Running .initMem s → s.resetIn = [] → s.timer = none → s.seq = (sdramFrames s.cfg).length →
    PollSees s 1 2 k s.cfg.sdram.doneMask s.cfg.sdram.doneLevel → Clean (2 * (k + 1)) s →
    runs (3 * k + 2 + timerTakesAll k s.timerIn) s = .next { s with
      trace := s.trace ++ delayedPoll s 0 k
      rx := (later (2 * k + 1) s).rxByte 1
      seq := (sdramFrames s.cfg).length + 2
      opv := false
      result := .ok
      timerIn := timerLeftAll k s.timerIn
      link := s.link.drop (2 * (k + 1))
      draws := s.draws + 2 * (k + 1) }

/-- R127, R155 to R158: a toggle reads its register into `TMP` and writes back the byte with its own bit set or cleared
and every other bit as read, even where nothing changes; at completion its ghost takes the new value. -/
def Obligations.TogglesWriteBackAllOtherBits : Prop :=
  ∀ (s : State) e,
    (HostWord [0x30#8, if e then 1#8 else 0#8] (.enableDisplay e) ∧ (Running (.enableDisplay e) s →
      Toggles (.enableDisplay e) s s.cfg.regs.dispCtrl s.cfg.display.onMask e fun u =>
        { u with dispOn := if e then .on else .off })) ∧
    (HostWord [0x31#8, if e then 1#8 else 0#8] (.enableTestPattern e) ∧ (Running (.enableTestPattern e) s →
      Toggles (.enableTestPattern e) s s.cfg.regs.dispCtrl s.cfg.display.colorBarMask e fun u =>
        { u with testOn := if e then .on else .off })) ∧
    (HostWord [0x32#8, if e then 1#8 else 0#8] (.enableTextMode e) ∧ (Running (.enableTextMode e) s →
      Toggles (.enableTextMode e) s s.cfg.regs.textCtrl s.cfg.display.textModeMask e fun u =>
        { u with textOn := if e then .on else .off }))

/-- R159: one position of a text operation: in the chunk that starts at byte `16 k` it polls for the empty FIFO, sends
the data port's address, sends the chunk in one burst, polls for not busy; the last poll of the last chunk completes
with `Ok`; the empty text sends nothing. -/
def Obligations.TextIsSentInChunksBetweenPolls : Prop :=
  ∀ (s : State) txt, (txt.length ≤ 65535 →
      HostWord (0x33#8 :: BitVec.ofNat 8 (txt.length / 256) :: BitVec.ofNat 8 (txt.length % 256) :: txt) (.writeText txt)) ∧
    (Running (.writeText txt) s →
    (txt = [] → s.seq = 0 → exec (.writeText txt) s = .next { s with opv := false, result := .ok }) ∧
    ∀ k, 16 * k < txt.length →
      (s.seq = 4 * k → bitIs (s.rxByte 1) s.cfg.status.wfifoMask s.cfg.status.wfifoEmptyLevel →
        FrameStep (.writeText txt) s [0x40#8, s.cfg.wire.ph] fun u => goOn (4 * k + 1) { u with rx := s.rxByte 1 }) ∧
      (s.seq = 4 * k → ¬ bitIs (s.rxByte 1) s.cfg.status.wfifoMask s.cfg.status.wfifoEmptyLevel →
        FrameStep (.writeText txt) s [0x40#8, s.cfg.wire.ph] fun u => goOn (4 * k) { u with rx := s.rxByte 1 }) ∧
      (s.seq = 4 * k + 1 → FrameStep (.writeText txt) s [0x00#8, s.cfg.regs.dataPort] (goOn (4 * k + 2))) ∧
      (s.seq = 4 * k + 2 →
        FrameStep (.writeText txt) s (0x80#8 :: (txt.drop (16 * k)).take 16) (goOn (4 * k + 3))) ∧
      (s.seq = 4 * k + 3 → bitIs (s.rxByte 1) s.cfg.status.busyMask (!s.cfg.status.busyLevel) →
        FrameStep (.writeText txt) s [0x40#8, s.cfg.wire.ph] fun u =>
          if txt.length ≤ 16 * (k + 1) then done (4 * k + 4) .ok { u with rx := s.rxByte 1 }
          else goOn (4 * k + 4) { u with rx := s.rxByte 1 }) ∧
      (s.seq = 4 * k + 3 → ¬ bitIs (s.rxByte 1) s.cfg.status.busyMask (!s.cfg.status.busyLevel) →
        FrameStep (.writeText txt) s [0x40#8, s.cfg.wire.ph] fun u => goOn (4 * k + 3) { u with rx := s.rxByte 1 }))

/-- R159, DOC's chunking property: against a target that is ready at every poll, a text of any length is sent as its
consecutive 16-byte pieces, the last shorter, each between its two polls, `4` frames a piece, and completes with `Ok`. -/
def Obligations.WholeTextIsSentPieceByPiece : Prop :=
  ∀ (s : State) txt pieces, Running (.writeText txt) s → s.seq = 0 → s.resetIn = [] → txt ≠ [] → Pieces txt pieces →
    Clean (4 * pieces.length) s →
    (∀ k, k < pieces.length →
      bitIs ((later (4 * k) s).rxByte 1) s.cfg.status.wfifoMask s.cfg.status.wfifoEmptyLevel ∧
      bitIs ((later (4 * k + 3) s).rxByte 1) s.cfg.status.busyMask (!s.cfg.status.busyLevel)) →
    runs (4 * pieces.length) s = .next { s with
      trace := s.trace ++ windows s 0 (pieces.flatMap (chunkFrames s.cfg))
      rx := (later (4 * pieces.length - 1) s).rxByte 1
      seq := 4 * pieces.length
      opv := false
      result := .ok
      link := s.link.drop (4 * pieces.length)
      draws := s.draws + 4 * pieces.length }

/-- R160, R161: the cursor setters are plain paired-byte writes, with no read. -/
def Obligations.CursorSettersArePairedWrites : Prop :=
  ∀ (s : State) (v : Half),
    (HostWord [0x34#8, v.extractLsb' 8 8, v.extractLsb' 0 8] (.setTextCursorX v) ∧
      (Running (.setTextCursorX v) s → Sends (.setTextCursorX v) s (wr16Frames s.cfg.regs.tcurX v) id)) ∧
    (HostWord [0x35#8, v.extractLsb' 8 8, v.extractLsb' 0 8] (.setTextCursorY v) ∧
      (Running (.setTextCursorY v) s → Sends (.setTextCursorY v) s (wr16Frames s.cfg.regs.tcurY v) id))

/-- R126, R162: `GET_TEXT_CURSOR_Y` reads the low byte at the base address into `TMP`, then the high byte at the next
address, and returns the 16-bit value. -/
def Obligations.CursorReadReturnsThePair : Prop :=
  ∀ s : State, HostWord [0x36#8] .getTextCursorY ∧ (Running .getTextCursorY s →
    (s.seq = 0 → FrameStep .getTextCursorY s [0x00#8, s.cfg.regs.tcurY] (goOn 1)) ∧
    (s.seq = 1 → FrameStep .getTextCursorY s [0xC0#8, s.cfg.wire.ph] fun u =>
      goOn 2 { u with rx := s.rxByte 1, tmp := s.rxByte 1 }) ∧
    (s.seq = 2 → FrameStep .getTextCursorY s [0x00#8, s.cfg.regs.tcurY + 1#8] (goOn 3)) ∧
    (s.seq = 3 → ∃ v : Half, v.toNat = (s.rxByte 1).toNat * 256 + s.tmp.toNat ∧
      FrameStep .getTextCursorY s [0xC0#8, s.cfg.wire.ph] fun u => done 4 (.okHalf v) { u with rx := s.rxByte 1 }))

/-! ### BTE -/

/-- R180 to R187: the eight field writers send the frames of their register writes and complete with `Ok`;
`bte_phase` is then `Configuring`, or stays `Started`. -/
def Obligations.BteFieldWritersSendTheirRegisters : Prop :=
  ∀ (s : State) (fin : State → State), fin = (fun u => { u with btePhase := fieldPhase u.btePhase }) →
    (∀ v : Word, HostWord [0x50#8, v.extractLsb' 24 8, v.extractLsb' 16 8, v.extractLsb' 8 8, v.extractLsb' 0 8]
        (.bteDestAddr v) ∧
      (Running (.bteDestAddr v) s → Sends (.bteDestAddr v) s (wr32Frames s.cfg.regs.bteDestAddr v) fin)) ∧
    (∀ x y : Half, HostWord [0x51#8, x.extractLsb' 8 8, x.extractLsb' 0 8, y.extractLsb' 8 8, y.extractLsb' 0 8]
        (.bteDestPos x y) ∧
      (Running (.bteDestPos x y) s →
        Sends (.bteDestPos x y) s (wr16Frames s.cfg.regs.bteDestX x ++ wr16Frames s.cfg.regs.bteDestY y) fin)) ∧
    (∀ s0 s1 d, HostWord [0x52#8, s0, s1, d] (.bteColorDepth s0 s1 d) ∧
      (Running (.bteColorDepth s0 s1 d) s → ∃ b, s.cfg.bte.colr s0 s1 d = some b ∧
        Sends (.bteColorDepth s0 s1 d) s (wr8Frames s.cfg.regs.bteColr b) fin)) ∧
    (∀ v, HostWord [0x53#8, v] (.bteAlpha v) ∧
      (Running (.bteAlpha v) s → Sends (.bteAlpha v) s (wr8Frames s.cfg.regs.bteAlpha v) fin)) ∧
    (∀ v : Half, HostWord [0x54#8, v.extractLsb' 8 8, v.extractLsb' 0 8] (.bteDestWidth v) ∧
      (Running (.bteDestWidth v) s → Sends (.bteDestWidth v) s (wr16Frames s.cfg.regs.bteDestWidth v) fin)) ∧
    (∀ v : Half, HostWord [0x55#8, v.extractLsb' 8 8, v.extractLsb' 0 8] (.bteWidth v) ∧
      (Running (.bteWidth v) s → Sends (.bteWidth v) s (wr16Frames s.cfg.regs.bteWidth v) fin)) ∧
    (∀ v : Half, HostWord [0x56#8, v.extractLsb' 8 8, v.extractLsb' 0 8] (.bteHeight v) ∧
      (Running (.bteHeight v) s → Sends (.bteHeight v) s (wr16Frames s.cfg.regs.bteHeight v) fin)) ∧
    (∀ r g b, HostWord [0x57#8, r, g, b] (.setFgColor r g b) ∧
      (Running (.setFgColor r g b) s → Sends (.setFgColor r g b) s
        (wr8Frames s.cfg.regs.fgcR r ++ wr8Frames s.cfg.regs.fgcG g ++ wr8Frames s.cfg.regs.fgcB b) fin))

/-- R188: `BTE_SETUP` writes the packed byte; `bte_phase` is then `SetUp`, unless it was `Started`. -/
def Obligations.BteSetupWritesThePackedByte : Prop :=
  ∀ (s : State) rop opc, HostWord [0x58#8, rop, opc] (.bteSetup rop opc) ∧ (Running (.bteSetup rop opc) s →
    ∃ b, s.cfg.bte.setup rop opc = some b ∧ Sends (.bteSetup rop opc) s (wr8Frames s.cfg.regs.bteSetup b) fun u =>
      { u with btePhase := if u.btePhase = .started then .started else .setUp })

/-- R189: `BTE_START` reads the control register and writes it back with the enable bit set and every other bit as read,
whatever `bte_phase` is; `bte_phase` is then `Started`. -/
def Obligations.BteStartPreservesOtherBits : Prop :=
  ∀ s : State, HostWord [0x59#8] .bteStart ∧ (Running .bteStart s →
    (s.seq = 0 → FrameStep .bteStart s [0x00#8, s.cfg.regs.bteCtrl] (goOn 1)) ∧
    (s.seq = 1 → FrameStep .bteStart s [0xC0#8, s.cfg.wire.ph] fun u =>
      goOn 2 { u with rx := s.rxByte 1, tmp := s.rxByte 1 }) ∧
    (s.seq = 2 → FrameStep .bteStart s [0x00#8, s.cfg.regs.bteCtrl] (goOn 3)) ∧
    (s.seq = 3 → FrameStep .bteStart s [0x80#8, s.tmp ||| s.cfg.bte.enableMask] fun u =>
      { done 4 .ok u with btePhase := .started }))

/-- R190: `BTE_WAIT` polls the busy bit through the control register, with no delay; when it shows not busy it completes
and `bte_phase` is `Idle`. -/
def Obligations.BteWaitPollsUntilNotBusy : Prop :=
  ∀ s : State, HostWord [0x5A#8] .bteWait ∧ (Running .bteWait s →
    (s.seq = 0 → FrameStep .bteWait s [0x00#8, s.cfg.regs.bteCtrl] (goOn 1)) ∧
    (s.seq = 1 → bitIs (s.rxByte 1) s.cfg.bte.busyMask (!s.cfg.bte.busyLevel) →
      FrameStep .bteWait s [0xC0#8, s.cfg.wire.ph] fun u =>
        { done 2 .ok u with rx := s.rxByte 1, btePhase := .idle }) ∧
    (s.seq = 1 → ¬ bitIs (s.rxByte 1) s.cfg.bte.busyMask (!s.cfg.bte.busyLevel) →
      FrameStep .bteWait s [0xC0#8, s.cfg.wire.ph] fun u => goOn 0 { u with rx := s.rxByte 1 }))

/-- R191: the last position of `FILL` is the start write: the control register's byte with the enable bit set; it
completes with `Ok`, and `bte_phase` is `Started`. Every earlier position is one frame, after which it goes on. -/
def Obligations.FillStepsOneFrameAtATime : Prop :=
  ∀ (s : State) r g b colr setup, HostWord [0x5B#8, r, g, b] (.fill r g b) ∧
    (Running (.fill r g b) s → s.cfg.bte.colr s.cfg.bte.depth24 s.cfg.bte.depth24 s.cfg.bte.depth24 = some colr →
    s.cfg.bte.setup s.cfg.bte.ropWhite s.cfg.bte.opcSolidFill = some setup →
    (∀ tx, (fillWrites s.cfg r g b colr setup)[s.seq]? = some tx →
      FrameStep (.fill r g b) s tx fun u =>
        { goOn (s.seq + 1) u with btePhase := fillPhase (s.seq + 1) u.btePhase }) ∧
    (s.seq = 34 → FrameStep (.fill r g b) s [0x00#8, s.cfg.regs.bteCtrl] (goOn 35)) ∧
    (s.seq = 35 → FrameStep (.fill r g b) s [0xC0#8, s.cfg.wire.ph] fun u =>
      goOn 36 { u with rx := s.rxByte 1, tmp := s.rxByte 1 }) ∧
    (s.seq = 36 → FrameStep (.fill r g b) s [0x00#8, s.cfg.regs.bteCtrl] (goOn 37)) ∧
    (s.seq = 37 → FrameStep (.fill r g b) s [0x80#8, s.tmp ||| s.cfg.bte.enableMask] fun u =>
      { done 38 .ok u with btePhase := .started }))

/-- R179, R191, DOC's property: a whole `FILL` is 38 frames in the exact order destination address, position, colour
depth, alpha, destination width, width, height, foreground colour, setup, start; nothing else is sent, nothing waits;
`bte_phase` is `Started` and the rest of the state is as before. -/
def Obligations.FillSendsItsFramesInTheExactOrder : Prop :=
  ∀ (s : State) r g b colr setup, Running (.fill r g b) s → s.seq = 0 → s.resetIn = [] → Clean 38 s →
    s.cfg.bte.colr s.cfg.bte.depth24 s.cfg.bte.depth24 s.cfg.bte.depth24 = some colr →
    s.cfg.bte.setup s.cfg.bte.ropWhite s.cfg.bte.opcSolidFill = some setup →
    ∀ rd, rd = (later 35 s).rxByte 1 →
    runs 38 s = .next { s with
      trace := s.trace ++ windows s 0 (fillWrites s.cfg r g b colr setup ++
        [[0x00#8, s.cfg.regs.bteCtrl], [0xC0#8, s.cfg.wire.ph], [0x00#8, s.cfg.regs.bteCtrl],
         [0x80#8, rd ||| s.cfg.bte.enableMask]])
      seq := 38
      opv := false
      result := .ok
      rx := rd
      tmp := rd
      btePhase := .started
      link := s.link.drop 38
      draws := s.draws + 38 }

/-! ### Faults, polls that go on, whole-machine rules -/

/-- R211, R212, R216: in every operation, a step that uses an answer of the link takes the fault exactly when that answer
reports an error, and then: the window is open in the trace with a beginning of the frame and `Faulted`, `FAULT`,
`FAULT_INFO`, `RESULT` name the operation and the position, the operation is over, chip-select is as drawn, and `RX`,
`TMP`, `seq` and the ghost state are as before the frame, and no further operation is accepted. A step that uses no
answer takes no fault. The model's own: `INIT_MEM` sets `lifecycle` before its first frame (log entry 17, DEDUCED); the
stop after the fault is named `faultLatched` (log entry 10, DEDUCED). -/
def Obligations.FaultIsTakenExactlyOnAnError : Prop :=
  ∀ (i : Instr) (s t : State), Running i s → exec i s = .next t →
    (t.draws = s.draws ∧ t.fault = false) ∨
    (t.draws = s.draws + 1 ∧ t.link = s.link.tail ∧ s.answer.err = none ∧ t.fault = false ∧ t.cs = true) ∨
    ∃ e tx, t.draws = s.draws + 1 ∧ t.link = s.link.tail ∧ s.answer.err = some e ∧ Safety.legalFrame tx = true ∧
      nextFrame i s = some tx ∧
      t.trace = s.trace ++ (.csLow :: (xfersFrom s 0 tx).take e.sent) ++ [.faulted] ∧
      t.fault = true ∧ t.faultInfo = { op := i, seq := s.seq } ∧ t.result = .fault { op := i, seq := s.seq } ∧
      t.opv = false ∧ t.cs = e.cs ∧ t.op = i ∧ t.seq = s.seq ∧ t.rx = s.rx ∧ t.tmp = s.tmp ∧
      t.btePhase = s.btePhase ∧ t.dispOn = s.dispOn ∧ t.testOn = s.testOn ∧ t.textOn = s.textOn ∧
      (t.lifecycle = s.lifecycle ∨ i = .initMem ∧ s.seq = 0 ∧ t.lifecycle = .sdramInitializing) ∧
      step { t with resetIn := [] } = .fault .faultLatched

/-- R8, R48, R100, D31: one step of an operation is at most one frame: the trace grows by one whole window sending the
bytes of `nextFrame`, by one delay request, by one failed window, or not at all. -/
def Obligations.OneStepIsOneFrame : Prop :=
  ∀ (i : Instr) (s t : State), Running i s → exec i s = .next t →
    (∃ tx, nextFrame i s = some tx ∧ Safety.legalFrame tx = true ∧
      (t.trace = s.trace ++ (.csLow :: xfersFrom s 0 tx ++ [.csHigh]) ∨
       ∃ k, t.trace = s.trace ++ (.csLow :: (xfersFrom s 0 tx).take k) ++ [.faulted])) ∨
    (nextFrame i s = none ∧ (t.trace = s.trace ∨ ∃ ms, t.trace = s.trace ++ [.delay ms]))

/-- R19, R220, R222: only `INIT_MEM`, alone or inside `INIT_DISP`, ever delays, and then by `SDRAM_POLL_DELAY_MS`. -/
def Obligations.OnlySdramInitialisationDelays : Prop :=
  ∀ (i : Instr) (s t : State), exec i s = .next t → Safety.delays t.trace ≠ Safety.delays s.trace →
    (i = .initMem ∨ i = .initDisp) ∧
    Safety.delays t.trace = Safety.delays s.trace ++ [s.cfg.sdram.pollDelayMs]

/-- R15, R211: `seq`, which `FAULT_INFO` records, counts the frames and delays completed. A frame without an error moves
it on by one, or leaves or sets it back where a poll has just read the wrong bit value; a frame with an error leaves it;
a step without a frame leaves it, but for the end of a delay, which sets it back to the start of its loop, two frames
before. (That it is an index into the static expansion is log entry 5, DEDUCED.) -/
def Obligations.SeqCountsWhatIsCompleted : Prop :=
  ∀ (i : Instr) (s t : State), Running i s → exec i s = .next t →
    (nextFrame i s ≠ none → s.answer.err = none →
      t.seq = s.seq + 1 ∨ (t.seq ≤ s.seq ∧ s.seq ≤ t.seq + 1 ∧ t.opv = true ∧ t.rx = s.rxByte 1 ∧
        PollMissed s.cfg i s.seq (s.rxByte 1))) ∧
    (nextFrame i s ≠ none → s.answer.err ≠ none → t.seq = s.seq) ∧
    (nextFrame i s = none → t.seq = s.seq ∨
      (t.seq + 2 = s.seq ∧ s.timer ≠ none ∧ t.timer = none ∧ t.trace = s.trace ∧ (i = .initMem ∨ i = .initDisp)))

/-- R214, R124: while every attempt reads the other bit value, `POLLR` runs for as many attempts as one likes: it stays
latched at its start, with no fault and two frames an attempt. -/
def Obligations.RegisterPollCanRunForEver : Prop :=
  ∀ (n : Nat) (s : State) a m t, Running (.pollr a m t) s → s.seq = 0 → s.resetIn = [] → Clean (2 * n) s →
    (∀ k, k < n → ¬ bitIs ((later (2 * k + 1) s).rxByte 1) m t) →
    ∃ u, runs (2 * n) s = .next u ∧ Running (.pollr a m t) u ∧ u.seq = 0 ∧
      u.trace = s.trace ++ windows s 0 ((List.replicate n [[0x00#8, a], [0xC0#8, s.cfg.wire.ph]]).flatten) ∧
      u.link = s.link.drop (2 * n) ∧ u.draws = s.draws + 2 * n

/-- R124, R214: under the premise that some attempt reads the awaited value, `POLLR` ends at the first such attempt with
`Ok`, after two frames an attempt and no delay. -/
def Obligations.RegisterPollEndsAtTheFirstHit : Prop :=
  ∀ (n : Nat) (s : State) a m t, Running (.pollr a m t) s → s.seq = 0 → s.resetIn = [] → Clean (2 * (n + 1)) s →
    PollSees s 1 2 n m t →
    runs (2 * (n + 1)) s = .next { s with
      trace := s.trace ++ windows s 0 ((List.replicate (n + 1) [[0x00#8, a], [0xC0#8, s.cfg.wire.ph]]).flatten)
      rx := (later (2 * n + 1) s).rxByte 1
      seq := 2
      opv := false
      result := .ok
      link := s.link.drop (2 * (n + 1))
      draws := s.draws + 2 * (n + 1) }

/-- R125, R214: the same for `POLLS`: under the premise that attempt `n` is the first to read the awaited value it ends
there with `Ok`, after one frame an attempt. -/
def Obligations.StatusPollEndsAtTheFirstHit : Prop :=
  ∀ (n : Nat) (s : State) m t, Running (.polls m t) s → s.seq = 0 → s.resetIn = [] → Clean (n + 1) s →
    PollSees s 0 1 n m t →
    runs (n + 1) s = .next { s with
      trace := s.trace ++ windows s 0 (List.replicate (n + 1) [0x40#8, s.cfg.wire.ph])
      rx := (later n s).rxByte 1
      seq := 1
      opv := false
      result := .ok
      link := s.link.drop (n + 1)
      draws := s.draws + (n + 1) }

/-- R11, R12, R15, R17, R19, R75, R78, R106, R212: the invariant of the machine is kept by every step from every state that
has it. -/
def Obligations.StepKeepsTheInvariant : Prop :=
  ∀ s t : State, Safety.Inv s → step s = .next t → Safety.Inv t

/-- The reset state has the invariant, with every configuration and everything lined up at the ports. -/
def Obligations.ResetHasTheInvariant : Prop :=
  ∀ (c : Cfg) h r d l n,
    Safety.Inv { State.resetWith c with hostIn := h, resetIn := r, timerIn := d, link := l, draws := n }

/-- R16: no output of the block depends on the ghost state: with any other ghost state a step stops alike or answers the
same state but for the ghost. -/
def Obligations.GhostStateChangesNoOutput : Prop :=
  ∀ (s : State) b l d t x, Alike SameButGhost (step s) (step (withGhost b l d t x s))

/-- R14: no operation reads `RX` or `TMP` before writing it: an operation just latched behaves alike whatever the two
registers hold, for any number of steps, in everything but the two registers. -/
def Obligations.DataRegistersAreNotReadBeforeWritten : Prop :=
  ∀ (n : Nat) (i : Instr) (s : State) r m, Running i s → s.seq = 0 →
    (∀ k, k < n → ∀ u, runs k s = .next u → u.opv = true) →
    Alike (fun u v => u = { v with rx := u.rx, tmp := u.tmp }) (runs n s) (runs n { s with rx := r, tmp := m })

/-- R5, R10, R20: no step changes the configuration, and a step that is not a reset only appends to the trace. The model's
own, since what the outside world does is lined up in lists: a step uses at most one answer of the link (log entry 3,
DESIGN CHOICE), exactly one reading of the reset input (log entry 8, DESIGN CHOICE), and a step of the timer only while a
delay is pending (log entry 6, DEDUCED and DESIGN CHOICE). -/
def Obligations.StepFramesConfigurationAndTrace : Prop :=
  ∀ s t : State, step s = .next t → t.cfg = s.cfg ∧
    (t.link = s.link ∧ t.draws = s.draws ∨ t.link = s.link.tail ∧ t.draws = s.draws + 1) ∧
    t.resetIn = s.resetIn.tail ∧ (t.timerIn = s.timerIn ∨ t.timerIn = s.timerIn.tail ∧ s.timer ≠ none) ∧
    (s.resetIn.headD false = false → s.trace <+: t.trace)

/-- R17, R212, R217: once set, `FAULT` is cleared by nothing but the reset input; and it is set by nothing but a transfer
error reported for a frame. -/
def Obligations.FaultFlagIsStickyAndOnlyFromErrors : Prop :=
  ∀ s t : State, step s = .next t →
    (s.fault = true → t.fault = false → s.resetIn.headD false = true) ∧
    (s.fault = false → t.fault = true → s.answer.err ≠ none ∧ t.draws = s.draws + 1 ∧ t.opv = false)

/-- R192, R248, C12: while no reset is active, `bte_phase` leaves `Started` only by a completed `BTE_WAIT`; and
`Started` is entered only by a completed `BTE_START`, alone or as the end of a `FILL`. -/
def Obligations.StartedEndsOnlyWithBteWait : Prop :=
  ∀ s t : State, step s = .next t → s.resetIn.headD false = false →
    (s.btePhase = .started → t.btePhase ≠ .started → t.op = .bteWait ∧ t.opv = false ∧ t.result = .ok) ∧
    (s.btePhase ≠ .started → t.btePhase = .started → t.opv = false ∧ t.result = .ok ∧
      (t.op = .bteStart ∨ ∃ r g b, t.op = .fill r g b))

/-- R143, R248: while no reset is active, `lifecycle` changes only in `INIT_MEM` and `INIT_DISP`, and becomes
`Configured` only as `INIT_DISP` completes with `Ok`. -/
def Obligations.OnlyBringUpChangesTheLifecycle : Prop :=
  ∀ s t : State, step s = .next t → s.resetIn.headD false = false → t.lifecycle ≠ s.lifecycle →
    (t.op = .initMem ∨ t.op = .initDisp) ∧
    (t.lifecycle = .configured → t.op = .initDisp ∧ t.opv = false ∧ t.result = .ok)

/-- R82: an operation that completes without a fault hands back the result of its kind: a byte for the byte reads, a
16-bit value for the cursor read, `Ok` for every other; one in which a frame reports an error hands back the fault; and
`RESULT` changes only at completion. -/
def Obligations.ResultsAreOfTheirKind : Prop :=
  ∀ (i : Instr) (s t : State), Running i s → exec i s = .next t →
    (t.opv = true → t.result = s.result) ∧
    (t.opv = false → t.fault = false →
      (i = .getTextCursorY → ∃ v, t.result = .okHalf v) ∧
      ((i = .stsr ∨ i = .datr ∨ ∃ a, i = .rd8 a) → t.result = .okByte t.rx) ∧
      ((i ≠ .getTextCursorY ∧ i ≠ .stsr ∧ i ≠ .datr ∧ i.isFrame = false ∧ ∀ a, i ≠ .rd8 a) → t.result = .ok)) ∧
    (t.fault = true → t.result = .fault { op := i, seq := s.seq }) ∧
    (t.draws ≠ s.draws → s.answer.err ≠ none → t.result = .fault { op := i, seq := s.seq })

/-- R127, R156, R25, DOC's property: against the reference target, which stores what is written, `ENABLE_DISPLAY 1` then
`ENABLE_DISPLAY 0` leaves every bit of the control register outside the display bit as it was, and the display bit
clear. (The reference target is the spec's test double, D12, and no claim about the chip.) -/
def Obligations.ToggleOnThenOffRestoresOtherBits : Prop :=
  ∀ (d : State) (g : RefTarget) rest, d.resetIn = [] → d.fault = false → d.opv = false → d.cs = true →
    WellFormed.oneBit d.cfg.display.onMask = true → d.hostIn = 0x30#8 :: 0x01#8 :: 0x30#8 :: 0x00#8 :: rest →
    g.readScript d.cfg.regs.dispCtrl = [] →
    ∃ b', Bench.run 8 { dev := d, tgt := g } = .next b' ∧
      b'.tgt.reg d.cfg.regs.dispCtrl = g.reg d.cfg.regs.dispCtrl &&& ~~~d.cfg.display.onMask ∧
      (∀ a, a ≠ d.cfg.regs.dispCtrl → b'.tgt.reg a = g.reg a) ∧
      b'.dev.dispOn = .off ∧ b'.dev.testOn = d.testOn ∧ b'.dev.opv = false ∧ b'.dev.result = .ok ∧
      b'.dev.hostIn = rest
end

