-- ==== Sys2Proof/Laws/Decode.lean ====
section
/-! SUPPORT. The byte-order and byte-list lemmas of the two encodings. -/

namespace Sys2Proof

open Operands

/-- The two bytes of a 16-bit value make it up again. -/
@[simp] theorem half_hi8_lo8 (v : Half) : half (hi8 v) (lo8 v) = v := by
  unfold half hi8 lo8
  apply BitVec.eq_of_toNat_eq
  rw [BitVec.toNat_append, BitVec.extractLsb'_toNat, BitVec.extractLsb'_toNat,
    ← Nat.shiftLeft_add_eq_or_of_lt (Nat.mod_lt _ (by decide)), Nat.shiftLeft_eq, Nat.shiftRight_eq_div_pow,
    Nat.shiftRight_eq_div_pow]
  have := v.isLt
  omega

/-- A 16-bit value as its two bytes. -/
theorem half_toNat (h l : Byte) : (half h l).toNat = h.toNat * 256 + l.toNat := by
  unfold half
  have := l.isLt
  rw [BitVec.toNat_append, ← Nat.shiftLeft_add_eq_or_of_lt this, Nat.shiftLeft_eq]

@[simp] theorem lo8_half (h l : Byte) : lo8 (half h l) = l := by
  have := half_toNat h l
  have hl := l.isLt
  apply BitVec.eq_of_toNat_eq
  rw [lo8, BitVec.extractLsb'_toNat, Nat.shiftRight_eq_div_pow, this]
  omega

@[simp] theorem hi8_half (h l : Byte) : hi8 (half h l) = h := by
  have := half_toNat h l
  have hl := l.isLt
  have hh := h.isLt
  apply BitVec.eq_of_toNat_eq
  rw [hi8, BitVec.extractLsb'_toNat, Nat.shiftRight_eq_div_pow, this]
  omega

/-- The four bytes of a 32-bit value make it up again. -/
theorem word_be32 (v : Word) : word (v.extractLsb' 24 8) (v.extractLsb' 16 8) (v.extractLsb' 8 8) (v.extractLsb' 0 8) = v := by
  unfold word
  apply BitVec.eq_of_toNat_eq
  rw [BitVec.toNat_append, BitVec.toNat_append, BitVec.toNat_append]
  simp only [BitVec.extractLsb'_toNat]
  rw [← Nat.shiftLeft_add_eq_or_of_lt (Nat.mod_lt _ (by decide)), ← Nat.shiftLeft_add_eq_or_of_lt (Nat.mod_lt _ (by decide)),
    ← Nat.shiftLeft_add_eq_or_of_lt (Nat.mod_lt _ (by decide))]
  simp only [Nat.shiftLeft_eq, Nat.shiftRight_eq_div_pow]
  have := v.isLt
  omega

theorem be32_word (a b c d : Byte) : be32 (word a b c d) = [a, b, c, d] := by
  have ha := a.isLt; have hb := b.isLt; have hc := c.isLt; have hd := d.isLt
  have h : (word a b c d).toNat = ((a.toNat * 256 + b.toNat) * 256 + c.toNat) * 256 + d.toNat := by
    unfold word
    rw [BitVec.toNat_append, BitVec.toNat_append, BitVec.toNat_append, ← Nat.shiftLeft_add_eq_or_of_lt hb,
      ← Nat.shiftLeft_add_eq_or_of_lt hc, ← Nat.shiftLeft_add_eq_or_of_lt hd]
    simp only [Nat.shiftLeft_eq]
  simp only [be32, List.cons.injEq, and_true]
  refine ⟨?_, ?_, ?_, ?_⟩ <;>
    (apply BitVec.eq_of_toNat_eq; rw [BitVec.extractLsb'_toNat, Nat.shiftRight_eq_div_pow, h]; omega)

/-- Taking a list's own length off a longer one gives the list and the rest. -/
@[simp] theorem splitBytes_append (ds rest : List Byte) :
    Decode.splitBytes ds.length (ds ++ rest) = some (ds, rest) := by
  induction ds with
  | nil => rfl
  | cons d ds ih => simp [Decode.splitBytes, ih]

/-- What a split gives back: a list of that length in front of the rest. -/
theorem splitBytes_eq_some {n : Nat} {bs ds rest : List Byte} (h : Decode.splitBytes n bs = some (ds, rest)) :
    ds.length = n ∧ bs = ds ++ rest := by
  induction n generalizing bs ds with
  | zero => simp [Decode.splitBytes] at h; obtain ⟨rfl, rfl⟩ := h; simp
  | succ n ih =>
    cases bs with
    | nil => simp [Decode.splitBytes] at h
    | cons b bs =>
      simp only [Decode.splitBytes, Option.map_eq_some_iff] at h
      obtain ⟨⟨x, y⟩, hx, hy⟩ := h
      simp only [Prod.mk.injEq] at hy
      obtain ⟨rfl, rfl⟩ := hy
      have := ih hx
      simp [this.1, this.2]

/-- The text chunks are the 16-byte pieces of the text. -/
theorem chunks_cons (b : Byte) (bs : List Byte) :
    ∃ n, chunks (b :: bs) = (b :: bs).take 16 :: chunksUpTo n ((b :: bs).drop 16) ∧ ((b :: bs).drop 16).length ≤ n :=
  ⟨bs.length, rfl, by simp⟩

end Sys2Proof
end

