-- ==== Sys2Proof/Laws/State.lean ====
section
/-! SUPPORT. One lemma per field per named update of the state, so that no proof unfolds a record update. -/

namespace Sys2Proof.Machine

open Sys2Proof

variable (s : State)

/-! ### `consume` -/

@[simp] theorem State.consume_cs : (s.consume).cs = s.cs := rfl
@[simp] theorem State.consume_opv : (s.consume).opv = s.opv := rfl
@[simp] theorem State.consume_op : (s.consume).op = s.op := rfl
@[simp] theorem State.consume_seq : (s.consume).seq = s.seq := rfl
@[simp] theorem State.consume_rx : (s.consume).rx = s.rx := rfl
@[simp] theorem State.consume_tmp : (s.consume).tmp = s.tmp := rfl
@[simp] theorem State.consume_fault : (s.consume).fault = s.fault := rfl
@[simp] theorem State.consume_faultInfo : (s.consume).faultInfo = s.faultInfo := rfl
@[simp] theorem State.consume_result : (s.consume).result = s.result := rfl
@[simp] theorem State.consume_trace : (s.consume).trace = s.trace := rfl
@[simp] theorem State.consume_btePhase : (s.consume).btePhase = s.btePhase := rfl
@[simp] theorem State.consume_lifecycle : (s.consume).lifecycle = s.lifecycle := rfl
@[simp] theorem State.consume_dispOn : (s.consume).dispOn = s.dispOn := rfl
@[simp] theorem State.consume_testOn : (s.consume).testOn = s.testOn := rfl
@[simp] theorem State.consume_textOn : (s.consume).textOn = s.textOn := rfl
@[simp] theorem State.consume_cfg : (s.consume).cfg = s.cfg := rfl
@[simp] theorem State.consume_hostIn : (s.consume).hostIn = s.hostIn := rfl
@[simp] theorem State.consume_resetIn : (s.consume).resetIn = s.resetIn := rfl
@[simp] theorem State.consume_link : (s.consume).link = s.link.tail := rfl
@[simp] theorem State.consume_draws : (s.consume).draws = s.draws + 1 := rfl
@[simp] theorem State.consume_timer : (s.consume).timer = s.timer := rfl
@[simp] theorem State.consume_timerIn : (s.consume).timerIn = s.timerIn := rfl

/-! ### `emit` -/

@[simp] theorem State.emit_cs (es : List Event) : (s.emit es).cs = s.cs := rfl
@[simp] theorem State.emit_opv (es : List Event) : (s.emit es).opv = s.opv := rfl
@[simp] theorem State.emit_op (es : List Event) : (s.emit es).op = s.op := rfl
@[simp] theorem State.emit_seq (es : List Event) : (s.emit es).seq = s.seq := rfl
@[simp] theorem State.emit_rx (es : List Event) : (s.emit es).rx = s.rx := rfl
@[simp] theorem State.emit_tmp (es : List Event) : (s.emit es).tmp = s.tmp := rfl
@[simp] theorem State.emit_fault (es : List Event) : (s.emit es).fault = s.fault := rfl
@[simp] theorem State.emit_faultInfo (es : List Event) : (s.emit es).faultInfo = s.faultInfo := rfl
@[simp] theorem State.emit_result (es : List Event) : (s.emit es).result = s.result := rfl
@[simp] theorem State.emit_trace (es : List Event) : (s.emit es).trace = s.trace ++ es := rfl
@[simp] theorem State.emit_btePhase (es : List Event) : (s.emit es).btePhase = s.btePhase := rfl
@[simp] theorem State.emit_lifecycle (es : List Event) : (s.emit es).lifecycle = s.lifecycle := rfl
@[simp] theorem State.emit_dispOn (es : List Event) : (s.emit es).dispOn = s.dispOn := rfl
@[simp] theorem State.emit_testOn (es : List Event) : (s.emit es).testOn = s.testOn := rfl
@[simp] theorem State.emit_textOn (es : List Event) : (s.emit es).textOn = s.textOn := rfl
@[simp] theorem State.emit_cfg (es : List Event) : (s.emit es).cfg = s.cfg := rfl
@[simp] theorem State.emit_hostIn (es : List Event) : (s.emit es).hostIn = s.hostIn := rfl
@[simp] theorem State.emit_resetIn (es : List Event) : (s.emit es).resetIn = s.resetIn := rfl
@[simp] theorem State.emit_link (es : List Event) : (s.emit es).link = s.link := rfl
@[simp] theorem State.emit_draws (es : List Event) : (s.emit es).draws = s.draws := rfl
@[simp] theorem State.emit_timer (es : List Event) : (s.emit es).timer = s.timer := rfl
@[simp] theorem State.emit_timerIn (es : List Event) : (s.emit es).timerIn = s.timerIn := rfl

/-! ### `raiseTransportFault` -/

@[simp] theorem raiseTransportFault_cs (b : Bool) : (raiseTransportFault b s).cs = b := rfl
@[simp] theorem raiseTransportFault_opv (b : Bool) : (raiseTransportFault b s).opv = false := rfl
@[simp] theorem raiseTransportFault_op (b : Bool) : (raiseTransportFault b s).op = s.op := rfl
@[simp] theorem raiseTransportFault_seq (b : Bool) : (raiseTransportFault b s).seq = s.seq := rfl
@[simp] theorem raiseTransportFault_rx (b : Bool) : (raiseTransportFault b s).rx = s.rx := rfl
@[simp] theorem raiseTransportFault_tmp (b : Bool) : (raiseTransportFault b s).tmp = s.tmp := rfl
@[simp] theorem raiseTransportFault_fault (b : Bool) : (raiseTransportFault b s).fault = true := rfl
@[simp] theorem raiseTransportFault_faultInfo (b : Bool) : (raiseTransportFault b s).faultInfo = { op := s.op, seq := s.seq } := rfl
@[simp] theorem raiseTransportFault_result (b : Bool) : (raiseTransportFault b s).result = .fault { op := s.op, seq := s.seq } := rfl
@[simp] theorem raiseTransportFault_trace (b : Bool) : (raiseTransportFault b s).trace = s.trace ++ [.faulted] := rfl
@[simp] theorem raiseTransportFault_btePhase (b : Bool) : (raiseTransportFault b s).btePhase = s.btePhase := rfl
@[simp] theorem raiseTransportFault_lifecycle (b : Bool) : (raiseTransportFault b s).lifecycle = s.lifecycle := rfl
@[simp] theorem raiseTransportFault_dispOn (b : Bool) : (raiseTransportFault b s).dispOn = s.dispOn := rfl
@[simp] theorem raiseTransportFault_testOn (b : Bool) : (raiseTransportFault b s).testOn = s.testOn := rfl
@[simp] theorem raiseTransportFault_textOn (b : Bool) : (raiseTransportFault b s).textOn = s.textOn := rfl
@[simp] theorem raiseTransportFault_cfg (b : Bool) : (raiseTransportFault b s).cfg = s.cfg := rfl
@[simp] theorem raiseTransportFault_hostIn (b : Bool) : (raiseTransportFault b s).hostIn = s.hostIn := rfl
@[simp] theorem raiseTransportFault_resetIn (b : Bool) : (raiseTransportFault b s).resetIn = s.resetIn := rfl
@[simp] theorem raiseTransportFault_link (b : Bool) : (raiseTransportFault b s).link = s.link := rfl
@[simp] theorem raiseTransportFault_draws (b : Bool) : (raiseTransportFault b s).draws = s.draws := rfl
@[simp] theorem raiseTransportFault_timer (b : Bool) : (raiseTransportFault b s).timer = s.timer := rfl
@[simp] theorem raiseTransportFault_timerIn (b : Bool) : (raiseTransportFault b s).timerIn = s.timerIn := rfl

/-! ### `frameSent` -/

@[simp] theorem frameSent_cs (tx : List Byte) : (frameSent tx s).cs = true := rfl
@[simp] theorem frameSent_opv (tx : List Byte) : (frameSent tx s).opv = s.opv := rfl
@[simp] theorem frameSent_op (tx : List Byte) : (frameSent tx s).op = s.op := rfl
@[simp] theorem frameSent_seq (tx : List Byte) : (frameSent tx s).seq = s.seq := rfl
@[simp] theorem frameSent_rx (tx : List Byte) : (frameSent tx s).rx = s.rx := rfl
@[simp] theorem frameSent_tmp (tx : List Byte) : (frameSent tx s).tmp = s.tmp := rfl
@[simp] theorem frameSent_fault (tx : List Byte) : (frameSent tx s).fault = s.fault := rfl
@[simp] theorem frameSent_faultInfo (tx : List Byte) : (frameSent tx s).faultInfo = s.faultInfo := rfl
@[simp] theorem frameSent_result (tx : List Byte) : (frameSent tx s).result = s.result := rfl
@[simp] theorem frameSent_trace (tx : List Byte) : (frameSent tx s).trace = s.trace ++ (.csLow :: xfersFrom s 0 tx ++ [.csHigh]) := rfl
@[simp] theorem frameSent_btePhase (tx : List Byte) : (frameSent tx s).btePhase = s.btePhase := rfl
@[simp] theorem frameSent_lifecycle (tx : List Byte) : (frameSent tx s).lifecycle = s.lifecycle := rfl
@[simp] theorem frameSent_dispOn (tx : List Byte) : (frameSent tx s).dispOn = s.dispOn := rfl
@[simp] theorem frameSent_testOn (tx : List Byte) : (frameSent tx s).testOn = s.testOn := rfl
@[simp] theorem frameSent_textOn (tx : List Byte) : (frameSent tx s).textOn = s.textOn := rfl
@[simp] theorem frameSent_cfg (tx : List Byte) : (frameSent tx s).cfg = s.cfg := rfl
@[simp] theorem frameSent_hostIn (tx : List Byte) : (frameSent tx s).hostIn = s.hostIn := rfl
@[simp] theorem frameSent_resetIn (tx : List Byte) : (frameSent tx s).resetIn = s.resetIn := rfl
@[simp] theorem frameSent_link (tx : List Byte) : (frameSent tx s).link = s.link.tail := rfl
@[simp] theorem frameSent_draws (tx : List Byte) : (frameSent tx s).draws = s.draws + 1 := rfl
@[simp] theorem frameSent_timer (tx : List Byte) : (frameSent tx s).timer = s.timer := rfl
@[simp] theorem frameSent_timerIn (tx : List Byte) : (frameSent tx s).timerIn = s.timerIn := rfl

/-! ### `frameFailed` -/

@[simp] theorem frameFailed_cs (e : LinkError) (tx : List Byte) : (frameFailed e tx s).cs = e.cs := rfl
@[simp] theorem frameFailed_opv (e : LinkError) (tx : List Byte) : (frameFailed e tx s).opv = false := rfl
@[simp] theorem frameFailed_op (e : LinkError) (tx : List Byte) : (frameFailed e tx s).op = s.op := rfl
@[simp] theorem frameFailed_seq (e : LinkError) (tx : List Byte) : (frameFailed e tx s).seq = s.seq := rfl
@[simp] theorem frameFailed_rx (e : LinkError) (tx : List Byte) : (frameFailed e tx s).rx = s.rx := rfl
@[simp] theorem frameFailed_tmp (e : LinkError) (tx : List Byte) : (frameFailed e tx s).tmp = s.tmp := rfl
@[simp] theorem frameFailed_fault (e : LinkError) (tx : List Byte) : (frameFailed e tx s).fault = true := rfl
@[simp] theorem frameFailed_faultInfo (e : LinkError) (tx : List Byte) : (frameFailed e tx s).faultInfo = { op := s.op, seq := s.seq } := rfl
@[simp] theorem frameFailed_result (e : LinkError) (tx : List Byte) : (frameFailed e tx s).result = .fault { op := s.op, seq := s.seq } := rfl
@[simp] theorem frameFailed_trace (e : LinkError) (tx : List Byte) : (frameFailed e tx s).trace = s.trace ++ (.csLow :: (xfersFrom s 0 tx).take e.sent) ++ [.faulted] := rfl
@[simp] theorem frameFailed_btePhase (e : LinkError) (tx : List Byte) : (frameFailed e tx s).btePhase = s.btePhase := rfl
@[simp] theorem frameFailed_lifecycle (e : LinkError) (tx : List Byte) : (frameFailed e tx s).lifecycle = s.lifecycle := rfl
@[simp] theorem frameFailed_dispOn (e : LinkError) (tx : List Byte) : (frameFailed e tx s).dispOn = s.dispOn := rfl
@[simp] theorem frameFailed_testOn (e : LinkError) (tx : List Byte) : (frameFailed e tx s).testOn = s.testOn := rfl
@[simp] theorem frameFailed_textOn (e : LinkError) (tx : List Byte) : (frameFailed e tx s).textOn = s.textOn := rfl
@[simp] theorem frameFailed_cfg (e : LinkError) (tx : List Byte) : (frameFailed e tx s).cfg = s.cfg := rfl
@[simp] theorem frameFailed_hostIn (e : LinkError) (tx : List Byte) : (frameFailed e tx s).hostIn = s.hostIn := rfl
@[simp] theorem frameFailed_resetIn (e : LinkError) (tx : List Byte) : (frameFailed e tx s).resetIn = s.resetIn := rfl
@[simp] theorem frameFailed_link (e : LinkError) (tx : List Byte) : (frameFailed e tx s).link = s.link.tail := rfl
@[simp] theorem frameFailed_draws (e : LinkError) (tx : List Byte) : (frameFailed e tx s).draws = s.draws + 1 := rfl
@[simp] theorem frameFailed_timer (e : LinkError) (tx : List Byte) : (frameFailed e tx s).timer = s.timer := rfl
@[simp] theorem frameFailed_timerIn (e : LinkError) (tx : List Byte) : (frameFailed e tx s).timerIn = s.timerIn := rfl

/-! ### `complete` -/

@[simp] theorem complete_cs (res : State → Result) : (complete res s).cs = s.cs := rfl
@[simp] theorem complete_opv (res : State → Result) : (complete res s).opv = false := rfl
@[simp] theorem complete_op (res : State → Result) : (complete res s).op = s.op := rfl
@[simp] theorem complete_seq (res : State → Result) : (complete res s).seq = s.seq := rfl
@[simp] theorem complete_rx (res : State → Result) : (complete res s).rx = s.rx := rfl
@[simp] theorem complete_tmp (res : State → Result) : (complete res s).tmp = s.tmp := rfl
@[simp] theorem complete_fault (res : State → Result) : (complete res s).fault = s.fault := rfl
@[simp] theorem complete_faultInfo (res : State → Result) : (complete res s).faultInfo = s.faultInfo := rfl
@[simp] theorem complete_result (res : State → Result) : (complete res s).result = res s := rfl
@[simp] theorem complete_trace (res : State → Result) : (complete res s).trace = s.trace := rfl
@[simp] theorem complete_btePhase (res : State → Result) : (complete res s).btePhase = s.btePhase := rfl
@[simp] theorem complete_lifecycle (res : State → Result) : (complete res s).lifecycle = s.lifecycle := rfl
@[simp] theorem complete_dispOn (res : State → Result) : (complete res s).dispOn = s.dispOn := rfl
@[simp] theorem complete_testOn (res : State → Result) : (complete res s).testOn = s.testOn := rfl
@[simp] theorem complete_textOn (res : State → Result) : (complete res s).textOn = s.textOn := rfl
@[simp] theorem complete_cfg (res : State → Result) : (complete res s).cfg = s.cfg := rfl
@[simp] theorem complete_hostIn (res : State → Result) : (complete res s).hostIn = s.hostIn := rfl
@[simp] theorem complete_resetIn (res : State → Result) : (complete res s).resetIn = s.resetIn := rfl
@[simp] theorem complete_link (res : State → Result) : (complete res s).link = s.link := rfl
@[simp] theorem complete_draws (res : State → Result) : (complete res s).draws = s.draws := rfl
@[simp] theorem complete_timer (res : State → Result) : (complete res s).timer = s.timer := rfl
@[simp] theorem complete_timerIn (res : State → Result) : (complete res s).timerIn = s.timerIn := rfl

/-! ### `store` -/

@[simp] theorem store_cs (m : Micro) (b : Byte) : (store m b s).cs = s.cs := rfl
@[simp] theorem store_opv (m : Micro) (b : Byte) : (store m b s).opv = s.opv := rfl
@[simp] theorem store_op (m : Micro) (b : Byte) : (store m b s).op = s.op := rfl
@[simp] theorem store_seq (m : Micro) (b : Byte) : (store m b s).seq = s.seq := rfl
@[simp] theorem store_rx (m : Micro) (b : Byte) : (store m b s).rx = (if m.act.reads then b else s.rx) := rfl
@[simp] theorem store_tmp (m : Micro) (b : Byte) : (store m b s).tmp = (if m.save then b else s.tmp) := rfl
@[simp] theorem store_fault (m : Micro) (b : Byte) : (store m b s).fault = s.fault := rfl
@[simp] theorem store_faultInfo (m : Micro) (b : Byte) : (store m b s).faultInfo = s.faultInfo := rfl
@[simp] theorem store_result (m : Micro) (b : Byte) : (store m b s).result = s.result := rfl
@[simp] theorem store_trace (m : Micro) (b : Byte) : (store m b s).trace = s.trace := rfl
@[simp] theorem store_btePhase (m : Micro) (b : Byte) : (store m b s).btePhase = s.btePhase := rfl
@[simp] theorem store_lifecycle (m : Micro) (b : Byte) : (store m b s).lifecycle = s.lifecycle := rfl
@[simp] theorem store_dispOn (m : Micro) (b : Byte) : (store m b s).dispOn = s.dispOn := rfl
@[simp] theorem store_testOn (m : Micro) (b : Byte) : (store m b s).testOn = s.testOn := rfl
@[simp] theorem store_textOn (m : Micro) (b : Byte) : (store m b s).textOn = s.textOn := rfl
@[simp] theorem store_cfg (m : Micro) (b : Byte) : (store m b s).cfg = s.cfg := rfl
@[simp] theorem store_hostIn (m : Micro) (b : Byte) : (store m b s).hostIn = s.hostIn := rfl
@[simp] theorem store_resetIn (m : Micro) (b : Byte) : (store m b s).resetIn = s.resetIn := rfl
@[simp] theorem store_link (m : Micro) (b : Byte) : (store m b s).link = s.link := rfl
@[simp] theorem store_draws (m : Micro) (b : Byte) : (store m b s).draws = s.draws := rfl
@[simp] theorem store_timer (m : Micro) (b : Byte) : (store m b s).timer = s.timer := rfl
@[simp] theorem store_timerIn (m : Micro) (b : Byte) : (store m b s).timerIn = s.timerIn := rfl

/-! ### `State.present` -/

@[simp] theorem State.present_cs (i : Instr) (rest : List Byte) : (s.present i rest).cs = s.cs := rfl
@[simp] theorem State.present_opv (i : Instr) (rest : List Byte) : (s.present i rest).opv = true := rfl
@[simp] theorem State.present_op (i : Instr) (rest : List Byte) : (s.present i rest).op = i := rfl
@[simp] theorem State.present_seq (i : Instr) (rest : List Byte) : (s.present i rest).seq = 0 := rfl
@[simp] theorem State.present_rx (i : Instr) (rest : List Byte) : (s.present i rest).rx = s.rx := rfl
@[simp] theorem State.present_tmp (i : Instr) (rest : List Byte) : (s.present i rest).tmp = s.tmp := rfl
@[simp] theorem State.present_fault (i : Instr) (rest : List Byte) : (s.present i rest).fault = s.fault := rfl
@[simp] theorem State.present_faultInfo (i : Instr) (rest : List Byte) : (s.present i rest).faultInfo = s.faultInfo := rfl
@[simp] theorem State.present_result (i : Instr) (rest : List Byte) : (s.present i rest).result = s.result := rfl
@[simp] theorem State.present_trace (i : Instr) (rest : List Byte) : (s.present i rest).trace = s.trace := rfl
@[simp] theorem State.present_btePhase (i : Instr) (rest : List Byte) : (s.present i rest).btePhase = s.btePhase := rfl
@[simp] theorem State.present_lifecycle (i : Instr) (rest : List Byte) : (s.present i rest).lifecycle = s.lifecycle := rfl
@[simp] theorem State.present_dispOn (i : Instr) (rest : List Byte) : (s.present i rest).dispOn = s.dispOn := rfl
@[simp] theorem State.present_testOn (i : Instr) (rest : List Byte) : (s.present i rest).testOn = s.testOn := rfl
@[simp] theorem State.present_textOn (i : Instr) (rest : List Byte) : (s.present i rest).textOn = s.textOn := rfl
@[simp] theorem State.present_cfg (i : Instr) (rest : List Byte) : (s.present i rest).cfg = s.cfg := rfl
@[simp] theorem State.present_hostIn (i : Instr) (rest : List Byte) : (s.present i rest).hostIn = rest := rfl
@[simp] theorem State.present_resetIn (i : Instr) (rest : List Byte) : (s.present i rest).resetIn = s.resetIn := rfl
@[simp] theorem State.present_link (i : Instr) (rest : List Byte) : (s.present i rest).link = s.link := rfl
@[simp] theorem State.present_draws (i : Instr) (rest : List Byte) : (s.present i rest).draws = s.draws := rfl
@[simp] theorem State.present_timer (i : Instr) (rest : List Byte) : (s.present i rest).timer = s.timer := rfl
@[simp] theorem State.present_timerIn (i : Instr) (rest : List Byte) : (s.present i rest).timerIn = s.timerIn := rfl

/-! ### `requestDelay` and `delayEnded` -/

@[simp] theorem requestDelay_cs (ms : Nat) : (requestDelay ms s).cs = s.cs := rfl
@[simp] theorem requestDelay_opv (ms : Nat) : (requestDelay ms s).opv = s.opv := rfl
@[simp] theorem requestDelay_op (ms : Nat) : (requestDelay ms s).op = s.op := rfl
@[simp] theorem requestDelay_seq (ms : Nat) : (requestDelay ms s).seq = s.seq := rfl
@[simp] theorem requestDelay_rx (ms : Nat) : (requestDelay ms s).rx = s.rx := rfl
@[simp] theorem requestDelay_tmp (ms : Nat) : (requestDelay ms s).tmp = s.tmp := rfl
@[simp] theorem requestDelay_fault (ms : Nat) : (requestDelay ms s).fault = s.fault := rfl
@[simp] theorem requestDelay_faultInfo (ms : Nat) : (requestDelay ms s).faultInfo = s.faultInfo := rfl
@[simp] theorem requestDelay_result (ms : Nat) : (requestDelay ms s).result = s.result := rfl
@[simp] theorem requestDelay_trace (ms : Nat) : (requestDelay ms s).trace = s.trace ++ [.delay ms] := rfl
@[simp] theorem requestDelay_btePhase (ms : Nat) : (requestDelay ms s).btePhase = s.btePhase := rfl
@[simp] theorem requestDelay_lifecycle (ms : Nat) : (requestDelay ms s).lifecycle = s.lifecycle := rfl
@[simp] theorem requestDelay_dispOn (ms : Nat) : (requestDelay ms s).dispOn = s.dispOn := rfl
@[simp] theorem requestDelay_testOn (ms : Nat) : (requestDelay ms s).testOn = s.testOn := rfl
@[simp] theorem requestDelay_textOn (ms : Nat) : (requestDelay ms s).textOn = s.textOn := rfl
@[simp] theorem requestDelay_timer (ms : Nat) : (requestDelay ms s).timer = some ms := rfl
@[simp] theorem requestDelay_cfg (ms : Nat) : (requestDelay ms s).cfg = s.cfg := rfl
@[simp] theorem requestDelay_hostIn (ms : Nat) : (requestDelay ms s).hostIn = s.hostIn := rfl
@[simp] theorem requestDelay_resetIn (ms : Nat) : (requestDelay ms s).resetIn = s.resetIn := rfl
@[simp] theorem requestDelay_timerIn (ms : Nat) : (requestDelay ms s).timerIn = s.timerIn := rfl
@[simp] theorem requestDelay_link (ms : Nat) : (requestDelay ms s).link = s.link := rfl
@[simp] theorem requestDelay_draws (ms : Nat) : (requestDelay ms s).draws = s.draws := rfl
@[simp] theorem delayEnded_cs (n : Nat) : (delayEnded n s).cs = s.cs := rfl
@[simp] theorem delayEnded_opv (n : Nat) : (delayEnded n s).opv = s.opv := rfl
@[simp] theorem delayEnded_op (n : Nat) : (delayEnded n s).op = s.op := rfl
@[simp] theorem delayEnded_seq (n : Nat) : (delayEnded n s).seq = s.seq - n := rfl
@[simp] theorem delayEnded_rx (n : Nat) : (delayEnded n s).rx = s.rx := rfl
@[simp] theorem delayEnded_tmp (n : Nat) : (delayEnded n s).tmp = s.tmp := rfl
@[simp] theorem delayEnded_fault (n : Nat) : (delayEnded n s).fault = s.fault := rfl
@[simp] theorem delayEnded_faultInfo (n : Nat) : (delayEnded n s).faultInfo = s.faultInfo := rfl
@[simp] theorem delayEnded_result (n : Nat) : (delayEnded n s).result = s.result := rfl
@[simp] theorem delayEnded_trace (n : Nat) : (delayEnded n s).trace = s.trace := rfl
@[simp] theorem delayEnded_btePhase (n : Nat) : (delayEnded n s).btePhase = s.btePhase := rfl
@[simp] theorem delayEnded_lifecycle (n : Nat) : (delayEnded n s).lifecycle = s.lifecycle := rfl
@[simp] theorem delayEnded_dispOn (n : Nat) : (delayEnded n s).dispOn = s.dispOn := rfl
@[simp] theorem delayEnded_testOn (n : Nat) : (delayEnded n s).testOn = s.testOn := rfl
@[simp] theorem delayEnded_textOn (n : Nat) : (delayEnded n s).textOn = s.textOn := rfl
@[simp] theorem delayEnded_timer (n : Nat) : (delayEnded n s).timer = none := rfl
@[simp] theorem delayEnded_cfg (n : Nat) : (delayEnded n s).cfg = s.cfg := rfl
@[simp] theorem delayEnded_hostIn (n : Nat) : (delayEnded n s).hostIn = s.hostIn := rfl
@[simp] theorem delayEnded_resetIn (n : Nat) : (delayEnded n s).resetIn = s.resetIn := rfl
@[simp] theorem delayEnded_timerIn (n : Nat) : (delayEnded n s).timerIn = s.timerIn := rfl
@[simp] theorem delayEnded_link (n : Nat) : (delayEnded n s).link = s.link := rfl
@[simp] theorem delayEnded_draws (n : Nat) : (delayEnded n s).draws = s.draws := rfl

/-! ### `resetBlock` -/

@[simp] theorem resetBlock_cs : (resetBlock s).cs = (State.resetWith s.cfg).cs := rfl
@[simp] theorem resetBlock_opv : (resetBlock s).opv = (State.resetWith s.cfg).opv := rfl
@[simp] theorem resetBlock_op : (resetBlock s).op = (State.resetWith s.cfg).op := rfl
@[simp] theorem resetBlock_seq : (resetBlock s).seq = (State.resetWith s.cfg).seq := rfl
@[simp] theorem resetBlock_rx : (resetBlock s).rx = (State.resetWith s.cfg).rx := rfl
@[simp] theorem resetBlock_tmp : (resetBlock s).tmp = (State.resetWith s.cfg).tmp := rfl
@[simp] theorem resetBlock_fault : (resetBlock s).fault = (State.resetWith s.cfg).fault := rfl
@[simp] theorem resetBlock_faultInfo : (resetBlock s).faultInfo = (State.resetWith s.cfg).faultInfo := rfl
@[simp] theorem resetBlock_result : (resetBlock s).result = (State.resetWith s.cfg).result := rfl
@[simp] theorem resetBlock_trace : (resetBlock s).trace = (State.resetWith s.cfg).trace := rfl
@[simp] theorem resetBlock_btePhase : (resetBlock s).btePhase = (State.resetWith s.cfg).btePhase := rfl
@[simp] theorem resetBlock_lifecycle : (resetBlock s).lifecycle = (State.resetWith s.cfg).lifecycle := rfl
@[simp] theorem resetBlock_dispOn : (resetBlock s).dispOn = (State.resetWith s.cfg).dispOn := rfl
@[simp] theorem resetBlock_testOn : (resetBlock s).testOn = (State.resetWith s.cfg).testOn := rfl
@[simp] theorem resetBlock_textOn : (resetBlock s).textOn = (State.resetWith s.cfg).textOn := rfl
@[simp] theorem resetBlock_cfg : (resetBlock s).cfg = s.cfg := rfl
@[simp] theorem resetBlock_hostIn : (resetBlock s).hostIn = s.hostIn := rfl
@[simp] theorem resetBlock_resetIn : (resetBlock s).resetIn = s.resetIn := rfl
@[simp] theorem resetBlock_link : (resetBlock s).link = s.link := rfl
@[simp] theorem resetBlock_draws : (resetBlock s).draws = s.draws := rfl
@[simp] theorem resetBlock_timer : (resetBlock s).timer = none := rfl
@[simp] theorem resetBlock_timerIn : (resetBlock s).timerIn = s.timerIn := rfl

/-! ### Ghost updates change ghost state only -/

@[simp] theorem applyMark_cs (g : Mark) : (applyMark s g).cs = s.cs := by cases g <;> rfl
@[simp] theorem applyMark_opv (g : Mark) : (applyMark s g).opv = s.opv := by cases g <;> rfl
@[simp] theorem applyMark_op (g : Mark) : (applyMark s g).op = s.op := by cases g <;> rfl
@[simp] theorem applyMark_seq (g : Mark) : (applyMark s g).seq = s.seq := by cases g <;> rfl
@[simp] theorem applyMark_rx (g : Mark) : (applyMark s g).rx = s.rx := by cases g <;> rfl
@[simp] theorem applyMark_tmp (g : Mark) : (applyMark s g).tmp = s.tmp := by cases g <;> rfl
@[simp] theorem applyMark_fault (g : Mark) : (applyMark s g).fault = s.fault := by cases g <;> rfl
@[simp] theorem applyMark_faultInfo (g : Mark) : (applyMark s g).faultInfo = s.faultInfo := by cases g <;> rfl
@[simp] theorem applyMark_result (g : Mark) : (applyMark s g).result = s.result := by cases g <;> rfl
@[simp] theorem applyMark_trace (g : Mark) : (applyMark s g).trace = s.trace := by cases g <;> rfl
@[simp] theorem applyMark_cfg (g : Mark) : (applyMark s g).cfg = s.cfg := by cases g <;> rfl
@[simp] theorem applyMark_hostIn (g : Mark) : (applyMark s g).hostIn = s.hostIn := by cases g <;> rfl
@[simp] theorem applyMark_resetIn (g : Mark) : (applyMark s g).resetIn = s.resetIn := by cases g <;> rfl
@[simp] theorem applyMark_link (g : Mark) : (applyMark s g).link = s.link := by cases g <;> rfl
@[simp] theorem applyMark_draws (g : Mark) : (applyMark s g).draws = s.draws := by cases g <;> rfl
@[simp] theorem applyMark_timer (g : Mark) : (applyMark s g).timer = s.timer := by cases g <;> rfl
@[simp] theorem applyMark_timerIn (g : Mark) : (applyMark s g).timerIn = s.timerIn := by cases g <;> rfl

@[simp] theorem applyMarks_cs (gs : List Mark) : (applyMarks gs s).cs = s.cs := by
  induction gs generalizing s with
  | nil => rfl
  | cons g gs ih => exact (ih (applyMark s g)).trans (applyMark_cs s g)
@[simp] theorem applyMarks_opv (gs : List Mark) : (applyMarks gs s).opv = s.opv := by
  induction gs generalizing s with
  | nil => rfl
  | cons g gs ih => exact (ih (applyMark s g)).trans (applyMark_opv s g)
@[simp] theorem applyMarks_op (gs : List Mark) : (applyMarks gs s).op = s.op := by
  induction gs generalizing s with
  | nil => rfl
  | cons g gs ih => exact (ih (applyMark s g)).trans (applyMark_op s g)
@[simp] theorem applyMarks_seq (gs : List Mark) : (applyMarks gs s).seq = s.seq := by
  induction gs generalizing s with
  | nil => rfl
  | cons g gs ih => exact (ih (applyMark s g)).trans (applyMark_seq s g)
@[simp] theorem applyMarks_rx (gs : List Mark) : (applyMarks gs s).rx = s.rx := by
  induction gs generalizing s with
  | nil => rfl
  | cons g gs ih => exact (ih (applyMark s g)).trans (applyMark_rx s g)
@[simp] theorem applyMarks_tmp (gs : List Mark) : (applyMarks gs s).tmp = s.tmp := by
  induction gs generalizing s with
  | nil => rfl
  | cons g gs ih => exact (ih (applyMark s g)).trans (applyMark_tmp s g)
@[simp] theorem applyMarks_fault (gs : List Mark) : (applyMarks gs s).fault = s.fault := by
  induction gs generalizing s with
  | nil => rfl
  | cons g gs ih => exact (ih (applyMark s g)).trans (applyMark_fault s g)
@[simp] theorem applyMarks_faultInfo (gs : List Mark) : (applyMarks gs s).faultInfo = s.faultInfo := by
  induction gs generalizing s with
  | nil => rfl
  | cons g gs ih => exact (ih (applyMark s g)).trans (applyMark_faultInfo s g)
@[simp] theorem applyMarks_result (gs : List Mark) : (applyMarks gs s).result = s.result := by
  induction gs generalizing s with
  | nil => rfl
  | cons g gs ih => exact (ih (applyMark s g)).trans (applyMark_result s g)
@[simp] theorem applyMarks_trace (gs : List Mark) : (applyMarks gs s).trace = s.trace := by
  induction gs generalizing s with
  | nil => rfl
  | cons g gs ih => exact (ih (applyMark s g)).trans (applyMark_trace s g)
@[simp] theorem applyMarks_cfg (gs : List Mark) : (applyMarks gs s).cfg = s.cfg := by
  induction gs generalizing s with
  | nil => rfl
  | cons g gs ih => exact (ih (applyMark s g)).trans (applyMark_cfg s g)
@[simp] theorem applyMarks_hostIn (gs : List Mark) : (applyMarks gs s).hostIn = s.hostIn := by
  induction gs generalizing s with
  | nil => rfl
  | cons g gs ih => exact (ih (applyMark s g)).trans (applyMark_hostIn s g)
@[simp] theorem applyMarks_resetIn (gs : List Mark) : (applyMarks gs s).resetIn = s.resetIn := by
  induction gs generalizing s with
  | nil => rfl
  | cons g gs ih => exact (ih (applyMark s g)).trans (applyMark_resetIn s g)
@[simp] theorem applyMarks_link (gs : List Mark) : (applyMarks gs s).link = s.link := by
  induction gs generalizing s with
  | nil => rfl
  | cons g gs ih => exact (ih (applyMark s g)).trans (applyMark_link s g)
@[simp] theorem applyMarks_draws (gs : List Mark) : (applyMarks gs s).draws = s.draws := by
  induction gs generalizing s with
  | nil => rfl
  | cons g gs ih => exact (ih (applyMark s g)).trans (applyMark_draws s g)
@[simp] theorem applyMarks_timer (gs : List Mark) : (applyMarks gs s).timer = s.timer := by
  induction gs generalizing s with
  | nil => rfl
  | cons g gs ih => exact (ih (applyMark s g)).trans (applyMark_timer s g)
@[simp] theorem applyMarks_timerIn (gs : List Mark) : (applyMarks gs s).timerIn = s.timerIn := by
  induction gs generalizing s with
  | nil => rfl
  | cons g gs ih => exact (ih (applyMark s g)).trans (applyMark_timerIn s g)

@[simp] theorem applyMarks_nil : applyMarks [] s = s := rfl

@[simp] theorem applyMarks_cons (g : Mark) (gs : List Mark) : applyMarks (g :: gs) s = applyMarks gs (applyMark s g) := rfl

end Sys2Proof.Machine
end

