-- ==== Sys2Proof/Laws/Ops.lean ====
section
/-! SUPPORT. What each shared operation can do, said once: expansions and their positions, one frame, what follows a
position, one step of an operation. -/

namespace Sys2Proof.Machine

open Sys2Proof Operands

/-! ### Expansions -/

@[simp] theorem Prog.pos_nil (k : Nat) : Prog.pos [] k = none := by cases k <;> rfl
@[simp] theorem Prog.pos_mark (g : Mark) (p : Prog) (k : Nat) : Prog.pos (.mark g :: p) k = p.pos k := by
  cases k <;> rfl
@[simp] theorem Prog.pos_micro_zero (m : Micro) (p : Prog) : Prog.pos (.micro m :: p) 0 = some m := rfl
@[simp] theorem Prog.pos_micro_succ (m : Micro) (p : Prog) (k : Nat) :
    Prog.pos (.micro m :: p) (k + 1) = p.pos k := rfl
@[simp] theorem Prog.marks_nil (k : Nat) : Prog.marks [] k = [] := by cases k <;> rfl
@[simp] theorem Prog.marks_mark_zero (g : Mark) (p : Prog) : Prog.marks (.mark g :: p) 0 = g :: p.marks 0 := rfl
@[simp] theorem Prog.marks_mark_succ (g : Mark) (p : Prog) (k : Nat) :
    Prog.marks (.mark g :: p) (k + 1) = p.marks (k + 1) := rfl
@[simp] theorem Prog.marks_micro_zero (m : Micro) (p : Prog) : Prog.marks (.micro m :: p) 0 = [] := rfl
@[simp] theorem Prog.marks_micro_succ (m : Micro) (p : Prog) (k : Nat) :
    Prog.marks (.micro m :: p) (k + 1) = p.marks k := rfl
@[simp] theorem Prog.size_nil : Prog.size [] = 0 := rfl
@[simp] theorem Prog.size_mark (g : Mark) (p : Prog) : Prog.size (.mark g :: p) = p.size := rfl
@[simp] theorem Prog.size_micro (m : Micro) (p : Prog) : Prog.size (.micro m :: p) = p.size + 1 := rfl

@[simp] theorem Prog.size_append (p q : Prog) : Prog.size (p ++ q) = p.size + q.size := by
  induction p with
  | nil => simp
  | cons x p ih =>
    cases x with
    | mark g => exact ih
    | micro m => simp only [List.cons_append, Prog.size_micro, ih]; omega

/-- The positions of two expansions one after the other. -/
theorem Prog.pos_append (p q : Prog) (k : Nat) :
    Prog.pos (p ++ q) k = if k < p.size then p.pos k else q.pos (k - p.size) := by
  induction p generalizing k with
  | nil => simp
  | cons x p ih =>
    cases x with
    | mark g => simpa using ih k
    | micro m =>
      cases k with
      | zero => simp
      | succ k => simp only [List.cons_append, Prog.pos_micro_succ, Prog.size_micro, ih,
          Nat.add_lt_add_iff_right, Nat.add_sub_add_right]

/-- The ghost updates of two expansions one after the other: where they meet, the first's last ones come first. -/
theorem Prog.marks_append (p q : Prog) (k : Nat) :
    Prog.marks (p ++ q) k =
      if k < p.size then p.marks k
      else if k = p.size then p.marks k ++ q.marks 0 else q.marks (k - p.size) := by
  induction p generalizing k with
  | nil => cases k <;> simp
  | cons x p ih =>
    cases x with
    | mark g =>
      cases k with
      | zero =>
        rw [List.cons_append, Prog.marks_mark_zero, ih, Prog.size_mark, Prog.marks_mark_zero]
        by_cases h : 0 < Prog.size p
        · simp [h]
        · have : Prog.size p = 0 := by omega
          simp [this]
      | succ k => rw [List.cons_append, Prog.marks_mark_succ, ih, Prog.size_mark, Prog.marks_mark_succ]
    | micro m =>
      cases k with
      | zero => simp
      | succ k => simp only [List.cons_append, Prog.marks_micro_succ, Prog.size_micro, ih,
          Nat.add_lt_add_iff_right, Nat.add_right_cancel_iff, Nat.add_sub_add_right]

/-- An expansion has a position at `k` exactly below its size. -/
theorem Prog.pos_isSome (p : Prog) (k : Nat) : (p.pos k).isSome = true ↔ k < p.size := by
  induction p generalizing k with
  | nil => simp
  | cons x p ih =>
    cases x with
    | mark g => simpa using ih k
    | micro m =>
      cases k with
      | zero => simp
      | succ k => simpa using ih k

theorem Prog.pos_eq_none (p : Prog) (k : Nat) : p.pos k = none ↔ p.size ≤ k := by
  have h := p.pos_isSome k
  cases hp : p.pos k <;> simp [hp] at h ⊢ <;> omega

/-! ### One frame -/

@[simp] theorem xfersFrom_nil (s : State) (i : Nat) : xfersFrom s i [] = [] := rfl
@[simp] theorem xfersFrom_cons (s : State) (i : Nat) (b : Byte) (bs : List Byte) :
    xfersFrom s i (b :: bs) = .xfer b (s.rxByte i) :: xfersFrom s (i + 1) bs := rfl

/-- The bytes received depend on the bus port alone. -/
theorem rxByte_congr {s t : State} (hl : s.link = t.link) (hd : s.draws = t.draws) (i : Nat) :
    s.rxByte i = t.rxByte i := by
  simp [State.rxByte, State.answer, hl, hd]

theorem answer_congr {s t : State} (hl : s.link = t.link) (hd : s.draws = t.draws) : s.answer = t.answer := by
  simp [State.answer, hl, hd]

theorem xfersFrom_congr {s t : State} (hl : s.link = t.link) (hd : s.draws = t.draws) (i : Nat) (bs : List Byte) :
    xfersFrom s i bs = xfersFrom t i bs := by
  induction bs generalizing i with
  | nil => rfl
  | cons b bs ih => simp [rxByte_congr hl hd, ih]

/-- What a frame answers, by the link's answer (R100). -/
theorem frame_ok {s : State} (tx : List Byte) (ok : State → State) (h : s.answer.err = none) :
    frame tx ok s = ok (frameSent tx s) := by simp [frame, h]

theorem frame_err {s : State} {e : LinkError} (tx : List Byte) (ok : State → State) (h : s.answer.err = some e) :
    frame tx ok s = frameFailed e tx s := by simp [frame, h]

/-! ### What follows a position -/

/-- Arriving at a position of the expansion. -/
theorem arrive_inside {p : Prog} {k : Nat} (res : State → Result) (s : State) (h : k < p.size) :
    arrive p res k s = applyMarks (p.marks k) { s with seq := k } := by
  obtain ⟨m, hm⟩ := Option.isSome_iff_exists.mp ((p.pos_isSome k).mpr h)
  simp [arrive, hm]

/-- Arriving past the last position: the operation completes. -/
theorem arrive_end {p : Prog} {k : Nat} (res : State → Result) (s : State) (h : p.size ≤ k) :
    arrive p res k s = complete res (applyMarks (p.marks k) { s with seq := k }) := by
  simp [arrive, (p.pos_eq_none k).mpr h]

/-- What a move can change: `seq`, the ghost state, and at completion `OPV` and `RESULT`. -/
theorem move_frame (p : Prog) (res : State → Result) (m : Move) (s : State) :
    (move p res m s).cs = s.cs ∧ (move p res m s).op = s.op ∧ (move p res m s).rx = s.rx ∧
    (move p res m s).tmp = s.tmp ∧ (move p res m s).fault = s.fault ∧ (move p res m s).faultInfo = s.faultInfo ∧
    (move p res m s).trace = s.trace ∧ (move p res m s).cfg = s.cfg ∧ (move p res m s).hostIn = s.hostIn ∧
    (move p res m s).resetIn = s.resetIn ∧ (move p res m s).link = s.link ∧ (move p res m s).draws = s.draws ∧
    (move p res m s).timer = s.timer ∧ (move p res m s).timerIn = s.timerIn := by
  cases m with
  | back n => simp [move]
  | wait ms n => simp [move]
  | fwd n =>
    simp only [move, arrive]
    split <;> simp

theorem follow_eq_move (p : Prog) (res : State → Result) (c : Ctl) (s : State) :
    ∃ m, follow p res c s = move p res m s := by
  cases c with
  | go m => exact ⟨m, rfl⟩
  | poll mask t hit miss => exact ⟨_, rfl⟩

/-! ### One step of an operation -/

/-- Every instruction's meaning is one step of its expansion (R84). -/
theorem exec_eq_perform (i : Instr) (s : State) :
    exec i s = perform i (expansion s.cfg i) (resultOf i) s := by
  cases i <;> rfl

theorem perform_illFormed {i : Instr} {s : State} {c : Check} (p : Prog) (res : State → Result)
    (h : WellFormed.check s.cfg i = some c) : perform i p res s = .refused (.illFormed c) := by
  simp [perform, h]

/-- Where a delay is due: behind the first position, where the position before polled with a delay between attempts and
`RX` fails its test. -/
theorem Prog.due_eq_some {p : Prog} {s : State} {ms n : Nat} :
    p.due s = some (ms, n) ↔
      ∃ k m mask t hit, s.seq = k + 1 ∧ p.pos k = some m ∧ m.ctl = .poll mask t hit (.wait ms n) ∧
        pollHit s.rx mask t = false := by
  unfold Prog.due
  constructor
  · intro h
    split at h
    · cases h
    · rename_i k hk
      split at h
      · rename_i mask t hit ms' n' hc
        split at h
        · cases h
        · rename_i hp
          obtain ⟨m, hm, hc⟩ := Option.map_eq_some_iff.mp hc
          cases h
          exact ⟨k, m, mask, t, hit, hk, hm, hc, by simpa using hp⟩
      · cases h
  · rintro ⟨k, m, mask, t, hit, hk, hm, hc, hp⟩
    simp [hk, hm, hc, hp]

/-- No delay is due at the first position. -/
@[simp] theorem Prog.due_start {p : Prog} {s : State} (h : s.seq = 0) : p.due s = none := by simp [Prog.due, h]

/-- The delay that is due depends on `seq` and `RX` alone. -/
theorem Prog.due_congr (p : Prog) {s t : State} (hs : s.seq = t.seq) (hr : s.rx = t.rx) : p.due s = p.due t := by
  simp [Prog.due, hs, hr]

/-- The three things a step can be while a delay is due: the block requests it, the timer ends it, the timer lets it go
on. -/
theorem delayStep_cases (ms n : Nat) (s : State) :
    (s.timer = none ∧ delayStep ms n s = requestDelay ms s) ∨
    (s.timer.isSome = true ∧ s.timerIn.headD true = true ∧
      delayStep ms n s = delayEnded n { s with timerIn := s.timerIn.tail }) ∨
    (s.timer.isSome = true ∧ s.timerIn.headD true = false ∧
      delayStep ms n s = { s with timerIn := s.timerIn.tail }) := by
  cases ht : s.timer with
  | none => exact .inl ⟨rfl, by simp [delayStep, ht]⟩
  | some d =>
    right
    cases hi : s.timerIn with
    | nil =>
      refine .inl ⟨rfl, rfl, ?_⟩
      cases s
      simp_all [delayStep, timerStep, delayEnded]
    | cons b r =>
      cases b
      · exact .inr ⟨rfl, rfl, by simp [delayStep, ht, timerStep, hi]⟩
      · exact .inl ⟨rfl, rfl, by simp [delayStep, ht, timerStep, hi]⟩

/-- The three things one step of an operation can be when it answers a next state: a step of a delay that is due, a
frame, or completion with no frame. -/
theorem perform_cases {i : Instr} {p : Prog} {res : State → Result} {s t : State} (h : perform i p res s = .next t) :
    WellFormed.check s.cfg i = none ∧
    ((∃ ms n, p.due s = some (ms, n) ∧ t = delayStep ms n s) ∨
     (p.due s = none ∧ p.pos s.seq = none ∧ t = complete res (startOp p s)) ∨
     (∃ m, p.due s = none ∧ p.pos s.seq = some m ∧ s.cs = true ∧ t = runFrame p res m (startOp p s))) := by
  have hcs : (startOp p s).cs = s.cs := by unfold startOp; split <;> simp
  cases hc : WellFormed.check s.cfg i with
  | some c => simp [perform, hc] at h
  | none =>
    refine ⟨rfl, ?_⟩
    cases hd : p.due s with
    | some d => left; simp [perform, hc, hd] at h; exact ⟨d.1, d.2, rfl, h.symm⟩
    | none =>
      right
      cases hp : p.pos s.seq with
      | none => left; simp [perform, hc, hd, hp] at h; exact ⟨rfl, rfl, h.symm⟩
      | some m =>
        right
        simp only [perform, hc, hd, hp, runMicro, hcs] at h
        split at h
        · rename_i hs
          exact ⟨m, rfl, rfl, hs, by simpa using h.symm⟩
        · cases h

/-- A frame position of a well-formed operation answers a next state. -/
theorem perform_frame {i : Instr} {p : Prog} {s : State} {m : Micro} (res : State → Result)
    (hc : WellFormed.check s.cfg i = none) (hd : p.due s = none) (hp : p.pos s.seq = some m)
    (hs : s.cs = true) : perform i p res s = .next (runFrame p res m (startOp p s)) := by
  have hcs : (startOp p s).cs = s.cs := by unfold startOp; split <;> simp
  simp [perform, hc, hd, hp, runMicro, hcs, hs]

theorem perform_delay {i : Instr} {p : Prog} {s : State} {ms n : Nat} (res : State → Result)
    (hc : WellFormed.check s.cfg i = none) (hd : p.due s = some (ms, n)) :
    perform i p res s = .next (delayStep ms n s) := by
  simp [perform, hc, hd]

theorem perform_end {i : Instr} {p : Prog} {s : State} (res : State → Result)
    (hc : WellFormed.check s.cfg i = none) (hd : p.due s = none) (hp : p.pos s.seq = none) :
    perform i p res s = .next (complete res (startOp p s)) := by
  simp [perform, hc, hd, hp]

/-- An operation that is under way has no ghost updates left from its start. -/
theorem startOp_later (p : Prog) {s : State} (h : s.seq ≠ 0) : startOp p s = s := by simp [startOp, h]

theorem startOp_plain {p : Prog} (s : State) (h : p.marks 0 = []) : startOp p s = s := by
  unfold startOp; split <;> simp [h]

/-! ### The step -/

theorem step_running {s : State} (hr : s.resetIn = []) (hf : s.fault = false) (ho : s.opv = true) :
    step s = exec s.op s := by simp [step, runStep, hr, hf, ho]

theorem step_reset {s : State} {r : List Bool} (h : s.resetIn = true :: r) :
    step s = .next (resetBlock { s with resetIn := r }) := by simp [step, resetStep, h]

/-- The things a step can be when it answers a next state: a reset, a faulted or an idle block that waits, one step of
the running operation, or the first step of the operation the host presents. -/
theorem step_cases {s t : State} (h : step s = .next t) :
    (∃ r, s.resetIn = true :: r ∧ t = resetBlock { s with resetIn := r }) ∨
    (∃ r, s.resetIn = false :: r ∧ s.fault = true ∧ t = { s with resetIn := r }) ∨
    (s.resetIn.headD false = false ∧ s.fault = false ∧
      ((s.opv = false ∧ s.hostIn = [] ∧ t = { s with resetIn := s.resetIn.tail }) ∨
       (s.opv = true ∧ exec s.op { s with resetIn := s.resetIn.tail } = .next t) ∨
       (∃ i rest, s.opv = false ∧ decode s.hostIn = .done i rest ∧
         exec i (State.present i rest { s with resetIn := s.resetIn.tail }) = .next t))) := by
  have run : ∀ (w : Bool) (u : State), runStep w u = .next t → (w = true ∧ u.fault = true ∧ t = u) ∨ (u.fault = false ∧
      ((u.opv = false ∧ u.hostIn = [] ∧ t = u) ∨ (u.opv = true ∧ exec u.op u = .next t) ∨
       (∃ i rest, u.opv = false ∧ decode u.hostIn = .done i rest ∧ exec i (u.present i rest) = .next t))) := by
    intro w u hu
    unfold runStep at hu
    split at hu
    · rename_i hf
      split at hu
      · rename_i hw; exact .inl ⟨hw, hf, by simpa using hu.symm⟩
      · cases hu
    · rename_i hf
      refine .inr ⟨by simpa using hf, ?_⟩
      split at hu
      · rename_i ho; exact .inr (.inl ⟨ho, hu⟩)
      · rename_i ho
        have ho : u.opv = false := by simpa using ho
        unfold takeOperation at hu
        split at hu
        · rename_i hh; exact .inl ⟨ho, hh, by simpa using hu.symm⟩
        · rename_i b bs hh
          split at hu
          · rename_i i rest hd
            exact .inr (.inr ⟨i, rest, ho, by rw [hh]; exact hd, hu⟩)
          · cases hu
  unfold step at h
  split at h
  · rename_i hr
    have e : ({ s with resetIn := s.resetIn.tail } : State) = s := by simp [hr]; cases s; simp_all
    rcases run _ s h with ⟨hw, -⟩ | ⟨hf, hc⟩
    · cases hw
    · exact .inr (.inr ⟨by simp [hr], hf, by rw [e]; exact hc⟩)
  · rename_i r hr; exact .inl ⟨r, hr, by simpa [resetStep] using h.symm⟩
  · rename_i r hr
    have e : ({ s with resetIn := s.resetIn.tail } : State) = { s with resetIn := r } := by simp [hr]
    rcases run _ _ h with ⟨-, hf, ht⟩ | ⟨hf, hc⟩
    · exact .inr (.inl ⟨r, hr, by simpa using hf, ht⟩)
    · exact .inr (.inr ⟨by simp [hr], hf, by rw [e]; exact hc⟩)

end Sys2Proof.Machine
end

