-- ==== Sys2Proof/Laws/PerInstr.lean ====
section
/-! SUPPORT. Statements made per instruction: the first byte of every operation's words is the opcode byte of its row
in the opcode table. -/

namespace Sys2Proof.Laws.Opcode

open Sys2Proof

/-- The `match` byte of an operation's row in spec/opcode_table.json. -/
def tableByte : Instr → Byte
  | .frameCommandWrite _ => 0x00#8
  | .frameStatusRead _ => 0x40#8
  | .frameDataWrite _ => 0x80#8
  | .frameDataRead _ => 0xC0#8
  | .frameDataBurst _ => 0x80#8
  | .cmdw _ => 0x00#8
  | .stsr => 0x40#8
  | .datw _ => 0x80#8
  | .datr => 0xC0#8
  | .datwb _ => 0x81#8
  | .wr8 _ _ => 0x10#8
  | .wr16 _ _ => 0x11#8
  | .wr32 _ _ => 0x12#8
  | .rd8 _ => 0x13#8
  | .pollr _ _ _ => 0x14#8
  | .polls _ _ => 0x15#8
  | .waitReady => 0x20#8
  | .initMem => 0x21#8
  | .initDisp => 0x22#8
  | .setDisplaySize _ _ => 0x23#8
  | .setBackPorch => 0x24#8
  | .setFrontPorch => 0x25#8
  | .setMainImageWidth => 0x26#8
  | .setActiveWindow => 0x27#8
  | .setCanvasWidth => 0x28#8
  | .setPixelFormat => 0x29#8
  | .setSyscfg => 0x2A#8
  | .setSyncPolarity => 0x2B#8
  | .setDisplayCtrl => 0x2C#8
  | .enableDisplay _ => 0x30#8
  | .enableTestPattern _ => 0x31#8
  | .enableTextMode _ => 0x32#8
  | .writeText _ => 0x33#8
  | .setTextCursorX _ => 0x34#8
  | .setTextCursorY _ => 0x35#8
  | .getTextCursorY => 0x36#8
  | .bteDestAddr _ => 0x50#8
  | .bteDestPos _ _ => 0x51#8
  | .bteColorDepth _ _ _ => 0x52#8
  | .bteAlpha _ => 0x53#8
  | .bteDestWidth _ => 0x54#8
  | .bteWidth _ => 0x55#8
  | .bteHeight _ => 0x56#8
  | .setFgColor _ _ _ => 0x57#8
  | .bteSetup _ _ => 0x58#8
  | .bteStart => 0x59#8
  | .bteWait => 0x5A#8
  | .fill _ _ _ => 0x5B#8

/-- The first byte of the operation's words is its row's. -/
def Statement (i : Instr) : Prop := (encode i).head? = some (tableByte i)

theorem frameCommandWrite (a : Byte) : Statement (.frameCommandWrite a) := rfl
theorem frameStatusRead (p : Byte) : Statement (.frameStatusRead p) := rfl
theorem frameDataWrite (d : Byte) : Statement (.frameDataWrite d) := rfl
theorem frameDataRead (p : Byte) : Statement (.frameDataRead p) := rfl
theorem frameDataBurst (ds : List Byte) : Statement (.frameDataBurst ds) := rfl
theorem cmdw (a : Byte) : Statement (.cmdw a) := rfl
theorem stsr : Statement .stsr := rfl
theorem datw (d : Byte) : Statement (.datw d) := rfl
theorem datr : Statement .datr := rfl
theorem datwb (ds : List Byte) : Statement (.datwb ds) := rfl
theorem wr8 (a v : Byte) : Statement (.wr8 a v) := rfl
theorem wr16 (a : Byte) (v : Half) : Statement (.wr16 a v) := rfl
theorem wr32 (a : Byte) (v : Word) : Statement (.wr32 a v) := rfl
theorem rd8 (a : Byte) : Statement (.rd8 a) := rfl
theorem pollr (a m : Byte) (t : Bool) : Statement (.pollr a m t) := rfl
theorem polls (m : Byte) (t : Bool) : Statement (.polls m t) := rfl
theorem waitReady : Statement .waitReady := rfl
theorem initMem : Statement .initMem := rfl
theorem initDisp : Statement .initDisp := rfl
theorem setDisplaySize (w h : Half) : Statement (.setDisplaySize w h) := rfl
theorem setBackPorch : Statement .setBackPorch := rfl
theorem setFrontPorch : Statement .setFrontPorch := rfl
theorem setMainImageWidth : Statement .setMainImageWidth := rfl
theorem setActiveWindow : Statement .setActiveWindow := rfl
theorem setCanvasWidth : Statement .setCanvasWidth := rfl
theorem setPixelFormat : Statement .setPixelFormat := rfl
theorem setSyscfg : Statement .setSyscfg := rfl
theorem setSyncPolarity : Statement .setSyncPolarity := rfl
theorem setDisplayCtrl : Statement .setDisplayCtrl := rfl
theorem enableDisplay (e : Bool) : Statement (.enableDisplay e) := rfl
theorem enableTestPattern (e : Bool) : Statement (.enableTestPattern e) := rfl
theorem enableTextMode (e : Bool) : Statement (.enableTextMode e) := rfl
theorem writeText (txt : List Byte) : Statement (.writeText txt) := rfl
theorem setTextCursorX (v : Half) : Statement (.setTextCursorX v) := rfl
theorem setTextCursorY (v : Half) : Statement (.setTextCursorY v) := rfl
theorem getTextCursorY : Statement .getTextCursorY := rfl
theorem bteDestAddr (v : Word) : Statement (.bteDestAddr v) := rfl
theorem bteDestPos (x y : Half) : Statement (.bteDestPos x y) := rfl
theorem bteColorDepth (s0 s1 d : Byte) : Statement (.bteColorDepth s0 s1 d) := rfl
theorem bteAlpha (v : Byte) : Statement (.bteAlpha v) := rfl
theorem bteDestWidth (v : Half) : Statement (.bteDestWidth v) := rfl
theorem bteWidth (v : Half) : Statement (.bteWidth v) := rfl
theorem bteHeight (v : Half) : Statement (.bteHeight v) := rfl
theorem setFgColor (r g b : Byte) : Statement (.setFgColor r g b) := rfl
theorem bteSetup (rop opc : Byte) : Statement (.bteSetup rop opc) := rfl
theorem bteStart : Statement .bteStart := rfl
theorem bteWait : Statement .bteWait := rfl
theorem fill (r g b : Byte) : Statement (.fill r g b) := rfl

end Sys2Proof.Laws.Opcode
end

