-- ==== Sys2Proof/Tests/Slice0.lean ====
section
/-! SUPPORT. The model's own tests. Expected values are the spec's: the words of R81 and R71, and the vectors of
95_test_vectors.md. Then a witness for the hypotheses of each statement. -/

namespace Sys2Proof.Tests

open Sys2Proof Machine Claim

/-! ### Small states -/

/-- The reset state with operation `i` latched at position `k` and the answers `l` lined up at the link. -/
def running (i : Instr) (k : Nat) (l : List LinkAnswer) : State :=
  { State.reset with opv := true, op := i, seq := k, link := l }

/-- An answer without error whose byte 0 is to be ignored. -/
def good (b : Byte) : LinkAnswer := { rx := [0xEE#8, b], err := none }

/-- An answer with a transfer error after one byte, chip-select left low. -/
def bad : LinkAnswer := { rx := [0xEE#8, 0xEE#8], err := some { sent := 1, cs := false } }

/-- The bytes sent in a trace. -/
def sentIn : List Event → List Byte
  | [] => []
  | .xfer b _ :: es => b :: sentIn es
  | _ :: es => sentIn es

/-- A part of the state a step answers. -/
def look {α : Type} (f : State → α) : Host.Outcome State Fault Refusal → Option α
  | .next s => some (f s)
  | .fault _ | .refused _ => none

/-- The bytes sent since reset, whether the operation goes on, and `RESULT`. -/
def seen (o : Host.Outcome State Fault Refusal) : Option (List Byte × Bool × Result) :=
  look (fun s => (sentIn s.trace, s.opv, s.result)) o

/-- The name under which a step refuses. -/
def refusal : Host.Outcome State Fault Refusal → Option Refusal
  | .refused r => some r
  | .next _ | .fault _ => none

/-! ### An ill-formed term for each check of R85 (95_test_vectors.md, part 2) -/

theorem test_refuses_w16Base : refusal (exec (.wr16 0xFF#8 1#16) State.reset) = some (.illFormed .w16Base) := by decide
theorem test_refuses_oneBitMask_two :
    refusal (exec (.pollr 0x90#8 0x30#8 false) State.reset) = some (.illFormed .oneBitMask) := by decide
theorem test_refuses_oneBitMask_none :
    refusal (exec (.pollr 0x90#8 0x00#8 false) State.reset) = some (.illFormed .oneBitMask) := by decide
theorem test_refuses_burstLen : refusal (exec (.datwb []) State.reset) = some (.illFormed .burstLen) := by decide
theorem test_refuses_sizeWidth :
    refusal (exec (.setDisplaySize 1020#16 600#16) State.reset) = some (.illFormed .sizeWidth) := by decide
theorem test_refuses_sizeWidth_wide :
    refusal (exec (.setDisplaySize 2056#16 600#16) State.reset) = some (.illFormed .sizeWidth) := by decide
theorem test_refuses_sizeHeight :
    refusal (exec (.setDisplaySize 1024#16 0#16) State.reset) = some (.illFormed .sizeHeight) := by decide
theorem refuses_textLen {txt : List Byte} (h : 65535 < txt.length) :
    WellFormed.check Config.pEx (.writeText txt) = some .textLen := by
  simp [WellFormed.check, WellFormed.broken, WellFormed.need, Nat.not_le.mpr h]
theorem test_refuses_textLen :
    WellFormed.check Config.pEx (.writeText (List.replicate 65536 0x41#8)) = some .textLen :=
  refuses_textLen (by rw [List.length_replicate]; decide)
theorem test_refuses_cfgLists :
    WellFormed.check { Config.pEx with steps := { Config.pEx.steps with canvasWidth := [.w16 0xFF#8 1#16] } } .setCanvasWidth =
      some .cfgLists := by decide
theorem test_refuses_codes :
    refusal (exec (.bteColorDepth 0x04#8 0x00#8 0x00#8) State.reset) = some (.illFormed .codes) := by decide +kernel

/-! ### Decoding: a word of every constructor, written out from R81's pattern or R71 and R74 -/

theorem test_decode_cmdw : decode [0x00#8, 0x12#8] = .done (.cmdw 0x12#8) [] := by decide
theorem test_decode_stsr : decode [0x40#8] = .done (.stsr) [] := by decide
theorem test_decode_datw : decode [0x80#8, 0x40#8] = .done (.datw 0x40#8) [] := by decide
theorem test_decode_datr : decode [0xC0#8] = .done (.datr) [] := by decide
theorem test_decode_datwb : decode [0x81#8, 0x01#8, 0xAA#8] = .done (.datwb [0xAA#8]) [] := by decide
theorem test_decode_wr8 : decode [0x10#8, 0x12#8, 0x40#8] = .done (.wr8 0x12#8 0x40#8) [] := by decide
theorem test_decode_wr16 : decode [0x11#8, 0x1A#8, 0x02#8, 0x57#8] = .done (.wr16 0x1A#8 599#16) [] := by decide
theorem test_decode_wr32 :
    decode [0x12#8, 0xA7#8, 0x00#8, 0x12#8, 0x34#8, 0x56#8] = .done (.wr32 0xA7#8 0x00123456#32) [] := by decide
theorem test_decode_rd8 : decode [0x13#8, 0x12#8] = .done (.rd8 0x12#8) [] := by decide
theorem test_decode_pollr :
    decode [0x14#8, 0x90#8, 0x10#8, 0x00#8] = .done (.pollr 0x90#8 0x10#8 false) [] := by decide
theorem test_decode_polls : decode [0x15#8, 0x40#8, 0x01#8] = .done (.polls 0x40#8 true) [] := by decide
theorem test_decode_waitReady : decode [0x20#8] = .done (.waitReady) [] := by decide
theorem test_decode_initMem : decode [0x21#8] = .done (.initMem) [] := by decide
theorem test_decode_initDisp : decode [0x22#8] = .done (.initDisp) [] := by decide
theorem test_decode_setDisplaySize :
    decode [0x23#8, 0x04#8, 0x00#8, 0x02#8, 0x58#8] = .done (.setDisplaySize 1024#16 600#16) [] := by decide
theorem test_decode_setBackPorch : decode [0x24#8] = .done (.setBackPorch) [] := by decide
theorem test_decode_setFrontPorch : decode [0x25#8] = .done (.setFrontPorch) [] := by decide
theorem test_decode_setMainImageWidth : decode [0x26#8] = .done (.setMainImageWidth) [] := by decide
theorem test_decode_setActiveWindow : decode [0x27#8] = .done (.setActiveWindow) [] := by decide
theorem test_decode_setCanvasWidth : decode [0x28#8] = .done (.setCanvasWidth) [] := by decide
theorem test_decode_setPixelFormat : decode [0x29#8] = .done (.setPixelFormat) [] := by decide
theorem test_decode_setSyscfg : decode [0x2A#8] = .done (.setSyscfg) [] := by decide
theorem test_decode_setSyncPolarity : decode [0x2B#8] = .done (.setSyncPolarity) [] := by decide
theorem test_decode_setDisplayCtrl : decode [0x2C#8] = .done (.setDisplayCtrl) [] := by decide
theorem test_decode_enableDisplay : decode [0x30#8, 0x01#8] = .done (.enableDisplay true) [] := by decide
theorem test_decode_enableTestPattern : decode [0x31#8, 0x00#8] = .done (.enableTestPattern false) [] := by decide
theorem test_decode_enableTextMode : decode [0x32#8, 0x01#8] = .done (.enableTextMode true) [] := by decide
theorem test_decode_writeText : decode [0x33#8, 0x00#8, 0x01#8, 0x47#8] = .done (.writeText [0x47#8]) [] := by decide
theorem test_decode_setTextCursorX : decode [0x34#8, 0x00#8, 0x64#8] = .done (.setTextCursorX 100#16) [] := by decide
theorem test_decode_setTextCursorY : decode [0x35#8, 0x01#8, 0x2C#8] = .done (.setTextCursorY 300#16) [] := by decide
theorem test_decode_getTextCursorY : decode [0x36#8] = .done (.getTextCursorY) [] := by decide
theorem test_decode_bteDestAddr :
    decode [0x50#8, 0x00#8, 0xAB#8, 0xCD#8, 0xEF#8] = .done (.bteDestAddr 0x00ABCDEF#32) [] := by decide
theorem test_decode_bteDestPos :
    decode [0x51#8, 0x01#8, 0x02#8, 0x03#8, 0x04#8] = .done (.bteDestPos 0x0102#16 0x0304#16) [] := by decide
theorem test_decode_bteColorDepth :
    decode [0x52#8, 0x02#8, 0x02#8, 0x02#8] = .done (.bteColorDepth 2#8 2#8 2#8) [] := by decide
theorem test_decode_bteAlpha : decode [0x53#8, 0x1F#8] = .done (.bteAlpha 0x1F#8) [] := by decide
theorem test_decode_bteDestWidth : decode [0x54#8, 0x04#8, 0x00#8] = .done (.bteDestWidth 1024#16) [] := by decide
theorem test_decode_bteWidth : decode [0x55#8, 0x04#8, 0x00#8] = .done (.bteWidth 1024#16) [] := by decide
theorem test_decode_bteHeight : decode [0x56#8, 0x02#8, 0x58#8] = .done (.bteHeight 600#16) [] := by decide
theorem test_decode_setFgColor :
    decode [0x57#8, 0x12#8, 0x34#8, 0x56#8] = .done (.setFgColor 0x12#8 0x34#8 0x56#8) [] := by decide
theorem test_decode_bteSetup : decode [0x58#8, 0x0F#8, 0x0C#8] = .done (.bteSetup 0x0F#8 0x0C#8) [] := by decide
theorem test_decode_bteStart : decode [0x59#8] = .done (.bteStart) [] := by decide
theorem test_decode_bteWait : decode [0x5A#8] = .done (.bteWait) [] := by decide
theorem test_decode_fill :
    decode [0x5B#8, 0x00#8, 0x00#8, 0xFF#8] = .done (.fill 0x00#8 0x00#8 0xFF#8) [] := by decide
theorem test_decode_frameCommandWrite :
    decodeFrame [0x00#8, 0x12#8] = some (.frameCommandWrite 0x12#8) := by decide
theorem test_decode_frameStatusRead :
    decodeFrame [0x40#8, 0x00#8] = some (.frameStatusRead 0x00#8) := by decide
theorem test_decode_frameDataWrite :
    decodeFrame [0x80#8, 0x40#8] = some (.frameDataWrite 0x40#8) := by decide
theorem test_decode_frameDataRead :
    decodeFrame [0xC0#8, 0x00#8] = some (.frameDataRead 0x00#8) := by decide
theorem test_decode_frameDataBurst :
    decodeFrame [0x80#8, 0x00#8, 0x12#8, 0x34#8, 0x56#8] = some (.frameDataBurst [0x00#8, 0x12#8, 0x34#8, 0x56#8]) := by decide

/-- R78: opcode bytes outside the table, and a flag byte with an upper bit set, are no operations. -/
theorem test_decode_rejects :
    (∀ op ∈ [0x01#8, 0x16#8, 0x2D#8, 0x37#8, 0x5C#8, 0x82#8, 0xFF#8], decode [op] = .rejected (.reservedOpcode op)) ∧
    decode [0x30#8, 0x02#8] = .rejected (.flagByte 0x02#8) := by decide
/-- R75: a frame of one byte, a read frame of three bytes and a frame with another mode byte are none of the block's. -/
theorem test_decodeFrame_rejects :
    decodeFrame [0x80#8] = none ∧ decodeFrame [0xC0#8, 0x00#8, 0x00#8] = none ∧ decodeFrame [0xC1#8, 0x00#8] = none := by
  decide
theorem test_tableWord_wr16 : decodeTableWord 32 0x57021A11 = some (.wr16 0x1A#8 599#16) := by decide
theorem test_tableWord_frameStatusRead : decodeTableWord 16 0x0040 = some (.frameStatusRead 0x00#8) := by decide

/-! ### One step of every instruction (95_test_vectors.md, parts 2 and 3; the P_EX examples of the rules) -/

theorem test_cmdw :
    seen (exec (.cmdw 0x80#8) (running (.cmdw 0x80#8) 0 [good 0x00#8])) =
      some ([0x00#8, 0x80#8], false, .ok) := by decide
theorem test_stsr :
    seen (exec (.stsr) (running (.stsr) 0 [good 0x48#8])) =
      some ([0x40#8, 0x00#8], false, .okByte 0x48#8) := by decide
theorem test_datw :
    seen (exec (.datw 0xFF#8) (running (.datw 0xFF#8) 0 [good 0x00#8])) =
      some ([0x80#8, 0xFF#8], false, .ok) := by decide
theorem test_datr :
    seen (exec (.datr) (running (.datr) 0 [good 0x5A#8])) =
      some ([0xC0#8, 0x00#8], false, .okByte 0x5A#8) := by decide
theorem test_datr_fault :
    seen (exec (.datr) (running (.datr) 0 [bad])) =
      some ([0xC0#8], false, .fault { op := .datr, seq := 0 }) := by decide
theorem test_datwb :
    seen (exec (.datwb [1#8, 2#8, 3#8, 4#8]) (running (.datwb [1#8, 2#8, 3#8, 4#8]) 0 [good 0x00#8])) =
      some ([0x80#8, 0x01#8, 0x02#8, 0x03#8, 0x04#8], false, .ok) := by decide
theorem test_frameCommandWrite :
    seen (exec (.frameCommandWrite 0x12#8) (running (.frameCommandWrite 0x12#8) 0 [good 0x00#8])) =
      some ([0x00#8, 0x12#8], false, .ok) := by decide
theorem test_frameStatusRead :
    seen (exec (.frameStatusRead 0x00#8) (running (.frameStatusRead 0x00#8) 0 [good 0x40#8])) =
      some ([0x40#8, 0x00#8], false, .okByte 0x40#8) := by decide
theorem test_frameDataWrite :
    seen (exec (.frameDataWrite 0x40#8) (running (.frameDataWrite 0x40#8) 0 [good 0x00#8])) =
      some ([0x80#8, 0x40#8], false, .ok) := by decide
theorem test_frameDataRead :
    seen (exec (.frameDataRead 0x00#8) (running (.frameDataRead 0x00#8) 0 [good 0x48#8])) =
      some ([0xC0#8, 0x00#8], false, .okByte 0x48#8) := by decide
theorem test_frameDataBurst :
    seen (exec (.frameDataBurst [0x00#8, 0x12#8]) (running (.frameDataBurst [0x00#8, 0x12#8]) 0 [good 0x00#8])) =
      some ([0x80#8, 0x00#8, 0x12#8], false, .ok) := by decide
theorem test_wr8 :
    seen (exec (.wr8 0xFF#8 0x00#8) (running (.wr8 0xFF#8 0x00#8) 1 [good 0x00#8])) =
      some ([0x80#8, 0x00#8], false, .ok) := by decide
theorem test_wr16_low :
    seen (exec (.wr16 0x1A#8 599#16) (running (.wr16 0x1A#8 599#16) 1 [good 0x00#8])) =
      some ([0x80#8, 0x57#8], true, .ok) := by decide
theorem test_wr16_high_address :
    seen (exec (.wr16 0xFE#8 0xFFFF#16) (running (.wr16 0xFE#8 0xFFFF#16) 2 [good 0x00#8])) =
      some ([0x00#8, 0xFF#8], true, .ok) := by decide
theorem test_wr32 :
    seen (exec (.wr32 0xA7#8 0x80000001#32) (running (.wr32 0xA7#8 0x80000001#32) 1 [good 0x00#8])) =
      some ([0x80#8, 0x80#8, 0x00#8, 0x00#8, 0x01#8], false, .ok) := by decide
theorem test_rd8 :
    seen (exec (.rd8 0x12#8) (running (.rd8 0x12#8) 1 [good 0x5A#8])) =
      some ([0xC0#8, 0x00#8], false, .okByte 0x5A#8) := by decide
theorem test_pollr_hit :
    seen (exec (.pollr 0x90#8 0x10#8 false) (running (.pollr 0x90#8 0x10#8 false) 1 [good 0xEF#8])) =
      some ([0xC0#8, 0x00#8], false, .ok) := by decide
theorem test_pollr_miss :
    seen (exec (.pollr 0x90#8 0x10#8 false) (running (.pollr 0x90#8 0x10#8 false) 1 [good 0x10#8])) =
      some ([0xC0#8, 0x00#8], true, .ok) := by decide
theorem test_polls_hit :
    seen (exec (.polls 0x08#8 false) (running (.polls 0x08#8 false) 0 [good 0x40#8])) =
      some ([0x40#8, 0x00#8], false, .ok) := by decide
theorem test_polls_miss :
    seen (exec (.polls 0x40#8 true) (running (.polls 0x40#8 true) 0 [good 0x00#8])) =
      some ([0x40#8, 0x00#8], true, .ok) := by decide
theorem test_waitReady_miss :
    seen (exec (.waitReady) (running (.waitReady) 0 [good 0x02#8])) =
      some ([0x40#8, 0x00#8], true, .ok) := by decide
theorem test_waitReady_hit :
    seen (exec (.waitReady) (running (.waitReady) 0 [good 0x00#8])) =
      some ([0x40#8, 0x00#8], false, .ok) := by decide
theorem test_initMem_start :
    seen (exec (.initMem) (running (.initMem) 9 [good 0x00#8])) =
      some ([0x80#8, 0x01#8], true, .ok) := by decide
theorem test_initMem_done :
    seen (exec (.initMem) (running (.initMem) 11 [good 0x01#8])) =
      some ([0xC0#8, 0x00#8], false, .ok) := by decide
theorem test_initDisp_size :
    seen (exec (.initDisp) (running (.initDisp) 14 [good 0x00#8])) =
      some ([0x80#8, 0x7F#8], true, .ok) := by decide
theorem test_initDisp_last :
    seen (exec (.initDisp) (running (.initDisp) 54 [good 0x00#8])) =
      some ([0x80#8, 0x00#8], false, .ok) := by decide
theorem test_setDisplaySize_width :
    seen (exec (.setDisplaySize 2048#16 65535#16) (running (.setDisplaySize 2048#16 65535#16) 1 [good 0x00#8])) =
      some ([0x80#8, 0xFF#8], true, .ok) := by decide
theorem test_setDisplaySize_height :
    seen (exec (.setDisplaySize 2048#16 65535#16) (running (.setDisplaySize 2048#16 65535#16) 3 [good 0x00#8])) =
      some ([0x80#8, 0xFE#8], true, .ok) := by decide
theorem test_setBackPorch :
    seen (exec (.setBackPorch) (running (.setBackPorch) 1 [good 0x00#8])) =
      some ([0x80#8, 0x13#8], false, .ok) := by decide
theorem test_setFrontPorch :
    seen (exec (.setFrontPorch) (running (.setFrontPorch) 0 [good 0x00#8])) =
      some ([0x00#8, 0x18#8], true, .ok) := by decide
theorem test_setMainImageWidth :
    seen (exec (.setMainImageWidth) (running (.setMainImageWidth) 3 [good 0x00#8])) =
      some ([0x80#8, 0x04#8], false, .ok) := by decide
theorem test_setActiveWindow :
    seen (exec (.setActiveWindow) (running (.setActiveWindow) 13 [good 0x00#8])) =
      some ([0x80#8, 0x58#8], true, .ok) := by decide
theorem test_setCanvasWidth :
    seen (exec (.setCanvasWidth) (running (.setCanvasWidth) 0 [good 0x00#8])) =
      some ([0x00#8, 0x54#8], true, .ok) := by decide
theorem test_setPixelFormat :
    seen (exec (.setPixelFormat) (running (.setPixelFormat) 1 [good 0x00#8])) =
      some ([0x80#8, 0x08#8], false, .ok) := by decide
theorem test_setSyscfg :
    seen (exec (.setSyscfg) (running (.setSyscfg) 0 [good 0x00#8])) =
      some ([0x00#8, 0x01#8], true, .ok) := by decide
theorem test_setSyncPolarity :
    seen (exec (.setSyncPolarity) (running (.setSyncPolarity) 1 [good 0x00#8])) =
      some ([0x80#8, 0xC0#8], false, .ok) := by decide
theorem test_setDisplayCtrl :
    seen (exec (.setDisplayCtrl) (running (.setDisplayCtrl) 1 [good 0x00#8])) =
      some ([0x80#8, 0x00#8], false, .ok) := by decide
theorem test_enableDisplay :
    seen (exec (.enableDisplay true) { running (.enableDisplay true) 3 [good 0x00#8] with tmp := 0xA5#8 }) =
      some ([0x80#8, 0xE5#8], false, .ok) := by decide
theorem test_enableTestPattern :
    seen (exec (.enableTestPattern false) { running (.enableTestPattern false) 3 [good 0x00#8] with tmp := 0xA5#8 }) =
      some ([0x80#8, 0x85#8], false, .ok) := by decide
theorem test_enableTextMode :
    seen (exec (.enableTextMode false) { running (.enableTextMode false) 3 [good 0x00#8] with tmp := 0xFF#8 }) =
      some ([0x80#8, 0xFB#8], false, .ok) := by decide
theorem test_writeText_burst :
    seen (exec (.writeText [0x41#8]) (running (.writeText [0x41#8]) 2 [good 0x00#8])) =
      some ([0x80#8, 0x41#8], true, .ok) := by decide
theorem test_writeText_busy :
    seen (exec (.writeText [0x41#8]) (running (.writeText [0x41#8]) 3 [good 0x48#8])) =
      some ([0x40#8, 0x00#8], true, .ok) := by decide
theorem test_setTextCursorX :
    seen (exec (.setTextCursorX 100#16) (running (.setTextCursorX 100#16) 2 [good 0x00#8])) =
      some ([0x00#8, 0x64#8], true, .ok) := by decide
theorem test_setTextCursorY :
    seen (exec (.setTextCursorY 300#16) (running (.setTextCursorY 300#16) 3 [good 0x00#8])) =
      some ([0x80#8, 0x01#8], false, .ok) := by decide
theorem test_getTextCursorY :
    seen (exec (.getTextCursorY) { running (.getTextCursorY) 3 [good 0x01#8] with tmp := 0x2C#8 }) =
      some ([0xC0#8, 0x00#8], false, .okHalf 300#16) := by decide
theorem test_bteDestAddr :
    seen (exec (.bteDestAddr 0x00ABCDEF#32) (running (.bteDestAddr 0x00ABCDEF#32) 1 [good 0x00#8])) =
      some ([0x80#8, 0x00#8, 0xAB#8, 0xCD#8, 0xEF#8], false, .ok) := by decide
theorem test_bteDestPos :
    seen (exec (.bteDestPos 0x0102#16 0x0304#16) (running (.bteDestPos 0x0102#16 0x0304#16) 7 [good 0x00#8])) =
      some ([0x80#8, 0x03#8], false, .ok) := by decide
theorem test_bteColorDepth :
    seen (exec (.bteColorDepth 2#8 2#8 2#8) (running (.bteColorDepth 2#8 2#8 2#8) 1 [good 0x00#8])) =
      some ([0x80#8, 0x4A#8], false, .ok) := by decide +kernel
theorem test_bteAlpha :
    seen (exec (.bteAlpha 0x1F#8) (running (.bteAlpha 0x1F#8) 1 [good 0x00#8])) =
      some ([0x80#8, 0x1F#8], false, .ok) := by decide
theorem test_bteDestWidth :
    seen (exec (.bteDestWidth 1024#16) (running (.bteDestWidth 1024#16) 3 [good 0x00#8])) =
      some ([0x80#8, 0x04#8], false, .ok) := by decide
theorem test_bteWidth :
    seen (exec (.bteWidth 1024#16) (running (.bteWidth 1024#16) 2 [good 0x00#8])) =
      some ([0x00#8, 0xB2#8], true, .ok) := by decide
theorem test_bteHeight :
    seen (exec (.bteHeight 600#16) (running (.bteHeight 600#16) 1 [good 0x00#8])) =
      some ([0x80#8, 0x58#8], true, .ok) := by decide
theorem test_setFgColor :
    seen (exec (.setFgColor 0x12#8 0x34#8 0x56#8) (running (.setFgColor 0x12#8 0x34#8 0x56#8) 5 [good 0x00#8])) =
      some ([0x80#8, 0x56#8], false, .ok) := by decide
theorem test_bteSetup :
    seen (exec (.bteSetup 0x0F#8 0x0C#8) (running (.bteSetup 0x0F#8 0x0C#8) 1 [good 0x00#8])) =
      some ([0x80#8, 0xFC#8], false, .ok) := by decide +kernel
theorem test_bteStart :
    seen (exec (.bteStart) { running (.bteStart) 3 [good 0x00#8] with tmp := 0x8F#8 }) =
      some ([0x80#8, 0x9F#8], false, .ok) := by decide
theorem test_bteWait_busy :
    seen (exec (.bteWait) (running (.bteWait) 1 [good 0x10#8])) =
      some ([0xC0#8, 0x00#8], true, .ok) := by decide
theorem test_bteWait_idle :
    seen (exec (.bteWait) (running (.bteWait) 1 [good 0x00#8])) =
      some ([0xC0#8, 0x00#8], false, .ok) := by decide
theorem test_fill_setup :
    seen (exec (.fill 0x00#8 0x00#8 0xFF#8) (running (.fill 0x00#8 0x00#8 0xFF#8) 33 [good 0x00#8])) =
      some ([0x80#8, 0xFC#8], true, .ok) := by decide +kernel
theorem test_fill_start :
    seen (exec (.fill 0x00#8 0x00#8 0xFF#8) { running (.fill 0x00#8 0x00#8 0xFF#8) 37 [good 0x00#8] with tmp := 0x00#8 }) =
      some ([0x80#8, 0x10#8], false, .ok) := by decide +kernel

/-- R15, R222, R251: after a failed SDRAM poll one delay of `SDRAM_POLL_DELAY_MS` is requested and `seq` is held. -/
theorem test_initMem_delay :
    look (fun s => (s.trace, s.seq, s.timer)) (exec .initMem (running .initMem 12 [])) = some ([.delay 1], 12, some 1) := by
  decide
/-- R19, R141, R222: while the timer lets the delay go on nothing moves; when it ends it, the loop starts again. -/
theorem test_initMem_timer :
    let s : State := { running .initMem 12 [] with timer := some 1, timerIn := [false] }
    look (fun s => (s.trace, s.seq, s.timer, s.timerIn)) (exec .initMem s) = some ([], 12, some 1, []) ∧
    look (fun s => (s.trace, s.seq, s.timer)) (exec .initMem { s with timerIn := [] }) = some ([], 10, none) := by decide
/-- R15, R211: the SDRAM poll of `INIT_DISP` that hits is its 13th completed frame, and a fault in the next records 13. -/
theorem test_initDisp_poll_index :
    look State.seq (exec .initDisp (running .initDisp 12 [good 0x01#8])) = some 13 ∧
    look (fun s => s.faultInfo.seq) (exec .initDisp { running .initDisp 13 [bad] with rx := 0x01#8 }) = some 13 := by
  decide
/-- R143, R153: the last frame of `INIT_DISP` configures, and both toggles are off. -/
theorem test_initDisp_configures :
    look (fun s => (s.lifecycle, s.dispOn, s.testOn)) (exec .initDisp (running .initDisp 54 [good 0x00#8])) =
      some (.configured, .off, .off) := by decide
/-- R159: the empty text sends nothing. -/
theorem test_writeText_empty : seen (exec (.writeText []) (running (.writeText []) 0 [])) = some ([], false, .ok) := by decide
/-- R100, R212, program P5: the third frame of a paired-byte write fails after one byte. -/
theorem test_wr16_fault :
    look (fun s => (s.trace, s.fault, s.faultInfo.seq, s.opv, s.cs))
      (exec (.wr16 0x1A#8 599#16) (running (.wr16 0x1A#8 599#16) 2 [bad])) =
      some ([.csLow, .xfer 0x00#8 0xEE#8, .faulted], true, 2, false, false) := by decide
/-- R101: the trace of `CMDW 0x12` in full, from host bytes. -/
theorem test_step_cmdw :
    look State.trace (step { State.reset with hostIn := [0x00#8, 0x12#8], link := [good 0x07#8] }) =
      some [.csLow, .xfer 0x00#8 0xEE#8, .xfer 0x12#8 0x07#8, .csHigh] := by decide
theorem test_step_refuses_reserved :
    refusal (step { State.reset with hostIn := [0x5C#8] }) = some (.notAnOperation (.reservedOpcode 0x5C#8)) := by decide
theorem test_withFetchWord_frame :
    (State.reset.withFetchWord 16 0x00C0).op = .frameDataRead 0x00#8 ∧
    look (fun _ => true) (step (State.reset.withFetchWord 16 0x00C0)) = some true := by decide
/-- D13, R85: the example configuration is well formed. -/
theorem test_pEx_wellFormed : WellFormed.cfg Config.pEx = true := by decide +kernel
/-- R192, R244: a fill before `INIT_DISP` has completed, and a start before a setup, are violations of the host's. -/
theorem test_violations :
    Safety.violations State.reset (.fill 0x00#8 0x00#8 0xFF#8) = [.notConfigured] ∧
    Safety.violations State.reset .bteStart = [.startBeforeSetup, .notConfigured] := by decide +kernel
/-- R23: the height pair written by a burst after a raw command write, a destination address written byte-wise, and the
same address written by its burst. -/
theorem test_violations_protocol :
    Safety.violations { State.reset with trace := [.csLow, .xfer 0x00#8 0x00#8, .xfer 0x1A#8 0x00#8, .csHigh] }
      (.datwb [0x57#8, 0x02#8]) = [.wrongProtocol] ∧
    Safety.violations State.reset (.wr8 0xA8#8 0x00#8) = [.wrongProtocol, .bypassesGhost] ∧
    Safety.violations State.reset (.wr32 0xA7#8 0#32) = [.bypassesGhost] := by decide
/-- R248: a raw write of the BTE control register bypasses the ghost state; one of the display height does not. -/
theorem test_violations_ghost :
    Safety.violations State.reset (.wr8 0x90#8 0x10#8) = [.bypassesGhost] ∧
    Safety.violations State.reset (.wr16 0x1A#8 599#16) = [] := by decide
/-- R246: the bring-up order, with a step run again; and with one left out. -/
theorem test_initOrder :
    Safety.initOrderKept [.waitReady, .initMem, .setDisplaySize 1024#16 600#16, .setBackPorch, .initMem, .setFrontPorch] = true ∧
    Safety.initOrderKept [.initDisp, .setBackPorch, .setDisplayCtrl] = true ∧
    Safety.initOrderKept [.waitReady, .initMem, .setBackPorch] = false := by decide
/-- R249: a faulted block is at an end with host bytes still lined up; a waiting operation is not. -/
theorem test_ended :
    Safety.ended { State.reset with fault := true, hostIn := [0x20#8] } = true ∧
    Safety.ended { State.reset with hostIn := [0x20#8] } = false ∧ Safety.endedWell State.reset = true := by decide

/-! ### Witnesses: concrete states and operands that meet the hypotheses of each statement -/

/-- The states of `running` run their operation wherever it is well formed. -/
theorem running_running {i : Instr} (k : Nat) (l : List LinkAnswer) (h : WellFormed.check Config.pEx i = none) :
    Running i (running i k l) := ⟨rfl, rfl, rfl, rfl, h⟩

/-- Operation `i` runs at its first and at its last frame of `fs`, once with a good answer and once with an error. -/
def Ends (i : Instr) (fs : List (List Byte)) : Prop :=
  WellFormed.check Config.pEx i = none ∧ fs[0]?.isSome = true ∧ fs[fs.length - 1]?.isSome = true ∧
  (running i 0 [good 0x00#8]).answer.err = none ∧
  (running i (fs.length - 1) [bad]).answer.err = some { sent := 1, cs := false }

/-- Operation `i` runs at position `k`, and byte 1 of the answer is `b`. -/
def At (i : Instr) (k : Nat) (b : Byte) : Prop :=
  WellFormed.check Config.pEx i = none ∧ (running i k [good b]).seq = k ∧ (running i k [good b]).rxByte 1 = b

/-- Both answers a frame can get, on any of the states of `running` (the hypotheses of `FrameStep`). -/
theorem witness_FrameStep (i : Instr) (k : Nat) :
    (running i k [good 0x5A#8]).answer.err = none ∧ (running i k [bad]).answer.err = some { sent := 1, cs := false } :=
  ⟨rfl, rfl⟩

theorem witness_ResetInputResetsFromEveryState :
    ({ running .bteWait 1 [] with fault := true, resetIn := [true, false] } : State).resetIn = true :: [false] := rfl

theorem witness_StepRunsTheDecodedOperation :
    let s : State := { State.reset with hostIn := [0x30#8, 0x01#8, 0x40#8] }
    s.resetIn.headD false = false ∧ s.fault = false ∧ s.opv = false ∧
    decode s.hostIn = .done (.enableDisplay true) [0x40#8] := by decide

theorem witness_StepGoesOnWithTheRunningOperation :
    let s : State := { running .bteStart 2 [] with resetIn := [false, true] }
    s.resetIn.headD false = false ∧ Running .bteStart s := ⟨rfl, rfl, rfl, rfl, rfl, by decide⟩

theorem witness_IdleBlockWaits :
    State.reset.resetIn.headD false = false ∧ State.reset.fault = false ∧ State.reset.opv = false ∧
    State.reset.hostIn = [] := by decide

theorem witness_FaultedBlockOnlyWaitsForReset :
    let s : State := { State.reset with fault := true }
    let t : State := { State.reset with fault := true, resetIn := [false, true] }
    s.fault = true ∧ s.resetIn = [] ∧ t.fault = true ∧ t.resetIn = false :: [true] := by decide

theorem witness_HostBytesAreTakenOnlyWhenIdle :
    let s : State := { State.reset with hostIn := [0x40#8, 0xC0#8], link := [good 0x00#8] }
    ∃ t, step s = .next t ∧ t.hostIn ≠ s.hostIn := ⟨_, rfl, by decide⟩

theorem witness_DecodeOfEncodeIsTheOperation :
    (Instr.datwb [0x01#8]).isFrame = false ∧ WellFormed.check Config.pEx (.datwb [0x01#8]) = none ∧
    (Instr.wr16 0xFE#8 0xFFFF#16).isFrame = false ∧ WellFormed.check Config.pEx (.wr16 0xFE#8 0xFFFF#16) = none := by
  decide

theorem witness_EncodeOfDecodeIsTheWord :
    decode [0x33#8, 0x00#8, 0x01#8, 0x47#8, 0x40#8] = .done (.writeText [0x47#8]) [0x40#8] := by decide

theorem witness_FramesDecodeAndEncode :
    (Instr.frameDataBurst [0x01#8, 0x02#8]).isFrame = true ∧
    (∀ ds, Instr.frameDataBurst [0x01#8, 0x02#8] = .frameDataBurst ds → 2 ≤ ds.length) ∧
    decodeFrame [0x80#8, 0x01#8] = some (.frameDataWrite 0x01#8) := by
  refine ⟨rfl, ?_, rfl⟩
  intro ds h; cases h; decide

theorem witness_ReservedOpcodesAreRefused :
    (0x01#8).toNat ∉ [0x00, 0x40, 0x80, 0xC0, 0x81, 0x10, 0x11, 0x12, 0x13, 0x14, 0x15, 0x20, 0x21, 0x22, 0x23, 0x24, 0x25,
      0x26, 0x27, 0x28, 0x29, 0x2A, 0x2B, 0x2C, 0x30, 0x31, 0x32, 0x33, 0x34, 0x35, 0x36, 0x50, 0x51, 0x52, 0x53, 0x54,
      0x55, 0x56, 0x57, 0x58, 0x59, 0x5A, 0x5B] ∧
    (let s : State := { State.reset with hostIn := [0x01#8, 0x02#8] }
     s.resetIn.headD false = false ∧ s.fault = false ∧ s.opv = false ∧ s.hostIn = 0x01#8 :: [0x02#8]) := by decide

theorem not_oneBit_zero : ¬ oneBit 0x00#8 := by unfold oneBit; decide
theorem not_oneBit_two : ¬ oneBit 0x30#8 := by unfold oneBit; decide
theorem oneBit_top : oneBit 0x80#8 := ⟨7, by decide, by decide⟩

theorem witness_IllFormedOperationsAreRefusedByName :
    WellFormed.check State.reset.cfg (.pollr 0x90#8 0x30#8 true) = some .oneBitMask ∧ ¬ oneBit 0x00#8 ∧ ¬ oneBit 0x30#8 ∧
    ¬ (1 ≤ ([] : List Byte).length ∧ ([] : List Byte).length ≤ 255) ∧
    ¬ ((2056#16).toNat % 8 = 0 ∧ 8 ≤ (2056#16).toNat ∧ (2056#16).toNat ≤ 2048) ∧
    ((2048#16).toNat % 8 = 0 ∧ 8 ≤ (2048#16).toNat ∧ (2048#16).toNat ≤ 2048) ∧
    ¬ (1 ≤ (List.replicate 256 0x41#8).length ∧ (List.replicate 256 0x41#8).length ≤ 255) ∧
    ¬ ((0#16).toNat % 8 = 0 ∧ 8 ≤ (0#16).toNat ∧ (0#16).toNat ≤ 2048) ∧
    65535 < (List.replicate 65536 0x41#8).length ∧
    State.reset.cfg.bte.colr 0x04#8 0x00#8 0x00#8 = none ∧ State.reset.cfg.bte.setup 0x10#8 0x00#8 = none := by
  refine ⟨by decide, not_oneBit_zero, not_oneBit_two, by decide, by decide, by decide, by decide +kernel,
    by decide, ?_, by decide +kernel, by decide +kernel⟩
  rw [List.length_replicate]; decide

theorem witness_WellFormedConfigurationAdmitsOperations :
    WellFormed.cfg Config.pEx = true ∧ ([] : List Byte).length ≤ 65535 ∧ oneBit 0x80#8 ∧ (0xFE#8 : Byte) ≠ 0xFF#8 ∧
    (List.replicate 255 0x41#8).length ≤ 255 ∧
    ((2048#16).toNat % 8 = 0 ∧ 8 ≤ (2048#16).toNat ∧ (2048#16).toNat ≤ 2048 ∧ 1 ≤ (65535#16).toNat) ∧
    Config.pEx.bte.colr 3#8 7#8 3#8 ≠ none ∧ Config.pEx.bte.setup 0x0F#8 0x0F#8 ≠ none ∧
    Instr.bteWait ∈ [Instr.stsr, .datr, .waitReady, .initMem, .initDisp, .setBackPorch, .setFrontPorch, .setMainImageWidth,
        .setActiveWindow, .setCanvasWidth, .setPixelFormat, .setSyscfg, .setSyncPolarity, .setDisplayCtrl,
        .getTextCursorY, .bteStart, .bteWait] :=
  ⟨test_pEx_wellFormed, by decide, oneBit_top, by decide, by decide +kernel, by decide, by decide +kernel, by decide +kernel,
    by decide⟩

theorem witness_TransportWritesAreOneFrame :
    Ends (.cmdw 0xFF#8) [[0x00#8, 0xFF#8]] ∧ Ends (.datw 0xFF#8) [[0x80#8, 0xFF#8]] ∧
    Ends (.datwb [0x01#8]) [[0x80#8, 0x01#8]] ∧ Ends (.frameCommandWrite 0x00#8) [[0x00#8, 0x00#8]] ∧
    Ends (.frameDataWrite 0x80#8) [[0x80#8, 0x80#8]] ∧
    Ends (.frameDataBurst [0x01#8, 0x02#8]) [[0x80#8, 0x01#8, 0x02#8]] ∧ (List.replicate 255 0x41#8).length ≤ 255 ∧
    WellFormed.check Config.pEx (.datwb (List.replicate 255 0x41#8)) = none := by unfold Ends; decide +kernel

theorem witness_TransportReadsKeepResponseByteOne :
    At .datr 0 0xFF#8 ∧ At .stsr 0 0x00#8 ∧ At (.frameDataRead 0xFF#8) 0 0x00#8 ∧ At (.frameStatusRead 0x00#8) 0 0xFF#8 := by
  unfold At; decide

theorem witness_RegisterWritesSendTheirFrames :
    Ends (.wr8 0xFF#8 0x00#8) (wr8Frames 0xFF#8 0x00#8) ∧ Ends (.wr16 0xFE#8 0xFFFF#16) (wr16Frames 0xFE#8 0xFFFF#16) ∧
    Ends (.wr32 0xFF#8 0x01020304#32) (wr32Frames 0xFF#8 0x01020304#32) := by unfold Ends; decide

theorem witness_PairedAndBurstWritesRunWhole :
    let l := [good 0x00#8, good 0x00#8, good 0x00#8, good 0x00#8]
    (running (.wr16 0xFE#8 0xFFFF#16) 0 l).resetIn = [] ∧ Running (.wr16 0xFE#8 0xFFFF#16) (running (.wr16 0xFE#8 0xFFFF#16) 0 l) ∧
    Clean 4 (running (.wr16 0xFE#8 0xFFFF#16) 0 l) ∧ Running (.wr32 0xFF#8 0#32) (running (.wr32 0xFF#8 0#32) 0 l) ∧
    Clean 2 (running (.wr32 0xFF#8 0#32) 0 l) := by unfold Running Clean; decide

theorem witness_RegisterReadReturnsTheByteRead : At (.rd8 0xFF#8) 0 0x00#8 ∧ At (.rd8 0x12#8) 1 0x5A#8 := by
  unfold At; decide

theorem witness_RegisterPollRepeatsUntilTheBit :
    ¬ oneBit 0x30#8 ∧ At (.pollr 0x90#8 0x80#8 true) 0 0x00#8 ∧ At (.pollr 0x90#8 0x80#8 true) 1 0x80#8 ∧
    bitIs 0x80#8 0x80#8 true ∧ At (.pollr 0x90#8 0x80#8 true) 1 0x7F#8 ∧ ¬ bitIs 0x7F#8 0x80#8 true :=
  ⟨not_oneBit_two, by unfold At bitIs; decide⟩

theorem witness_StatusPollsRepeatUntilTheBit :
    ¬ oneBit 0x00#8 ∧ At (.polls 0x01#8 false) 0 0xFE#8 ∧ bitIs 0xFE#8 0x01#8 false ∧ At (.polls 0x01#8 false) 0 0x01#8 ∧
    ¬ bitIs 0x01#8 0x01#8 false ∧ At .waitReady 0 0x00#8 ∧
    bitIs 0x00#8 Config.pEx.status.readyMask Config.pEx.status.readyLevel ∧ At .waitReady 0 0x02#8 ∧
    ¬ bitIs 0x02#8 Config.pEx.status.readyMask Config.pEx.status.readyLevel :=
  ⟨not_oneBit_zero, by unfold At bitIs; decide⟩

theorem witness_ConfigurationStepsSendTheirLists :
    Ends .setBackPorch (listFrames Config.pEx.steps.backPorch) ∧
    Ends .setFrontPorch (listFrames Config.pEx.steps.frontPorch) ∧
    Ends .setMainImageWidth (listFrames Config.pEx.steps.mainImageWidth) ∧
    Ends .setActiveWindow (listFrames Config.pEx.steps.activeWindow) ∧
    Ends .setCanvasWidth (listFrames Config.pEx.steps.canvasWidth) ∧
    Ends .setPixelFormat (listFrames Config.pEx.steps.pixelFormat) ∧
    Ends .setSyscfg (listFrames Config.pEx.steps.syscfg) ∧
    Ends .setSyncPolarity (listFrames Config.pEx.steps.syncPolarity) ∧
    (let s : State :=
      { running .setBackPorch 0 [] with cfg := { Config.pEx with steps := { Config.pEx.steps with backPorch := [] } } }
     Running .setBackPorch s ∧ s.cfg.steps.backPorch = [] ∧ s.seq = 0) := by unfold Ends Running; decide

theorem writesDispCtrl_pEx : WritesDispCtrl Config.pEx := by
  intro w hw
  simp only [Config.pEx, List.mem_singleton] at hw
  exact ⟨0x00#8, hw⟩

theorem witness_DisplayControlWriteSetsTheToggles :
    WritesDispCtrl Config.pEx ∧ Ends .setDisplayCtrl (listFrames Config.pEx.steps.displayCtrl) :=
  ⟨writesDispCtrl_pEx, by unfold Ends; decide⟩

theorem witness_DisplaySizeIsEncodedExactly :
    Ends (.setDisplaySize 8#16 1#16) (sizeFrames Config.pEx 8#16 1#16) ∧
    Ends (.setDisplaySize 2048#16 65535#16) (sizeFrames Config.pEx 2048#16 65535#16) := by unfold Ends; decide

theorem witness_SdramInitialisationPollsWithDelays :
    let s : State := { running .initMem 11 [good 0x00#8] with lifecycle := .sdramInitializing }
    Ends .initMem (sdramFrames Config.pEx) ∧ (sdramFrames Config.pEx).length = 10 ∧ Running .initMem s ∧
    s.lifecycle = .sdramInitializing ∧ s.seq = 10 + 1 ∧
    ¬ bitIs (s.rxByte 1) s.cfg.sdram.doneMask s.cfg.sdram.doneLevel ∧
    bitIs 0x01#8 s.cfg.sdram.doneMask s.cfg.sdram.doneLevel ∧ At .initMem 10 0x00#8 ∧ At .initMem 11 0x01#8 ∧
    At .initMem 12 0x00#8 ∧ ¬ bitIs (running .initMem 12 []).rx s.cfg.sdram.doneMask s.cfg.sdram.doneLevel := by
  unfold Ends At Running bitIs; decide

/-- A state in which operation `i` is due a delay at position `k`, pending at the timer as `d` says. -/
def delaying (i : Instr) (k : Nat) (d : Option Nat) (l : List Bool) : State :=
  { running i k [] with lifecycle := .sdramInitializing, timer := d, timerIn := l }

/-- The states a delay can be in (the hypotheses of `DelayStep`), for `SdramInitialisationPollsWithDelays` and
`BringUpWritesInOrderAndConfigures`: to be requested; ended past the list; ended, or let go on, by a listed step. -/
theorem witness_DelayStep :
    (∀ x ∈ [(none, []), (some 1, []), (some 1, [true]), (some 1, [false, true])],
      Running .initMem (delaying .initMem 12 x.1 x.2) ∧ Running .initDisp (delaying .initDisp 13 x.1 x.2)) ∧
    (sdramFrames Config.pEx).length + 3 = 13 ∧
    ¬ bitIs (delaying .initDisp 13 none []).rx Config.pEx.sdram.doneMask Config.pEx.sdram.doneLevel := by
  unfold Running bitIs; decide

theorem witness_BringUpWritesInOrderAndConfigures :
    WritesDispCtrl Config.pEx ∧ (sdramFrames Config.pEx).length = 10 ∧ (bringUpFrames Config.pEx).length = 42 ∧
    (∀ k ∈ [0, 1, 10, 11, 12, 13, 14, 54], At .initDisp k 0x00#8) ∧ At .initDisp 0 0x02#8 ∧
    bitIs 0x00#8 Config.pEx.status.readyMask Config.pEx.status.readyLevel ∧
    ¬ bitIs 0x02#8 Config.pEx.status.readyMask Config.pEx.status.readyLevel ∧
    (let s : State := { running .initDisp 13 [good 0x00#8] with rx := 0x01#8 }
     Running .initDisp s ∧ bitIs s.rx s.cfg.sdram.doneMask s.cfg.sdram.doneLevel) :=
  ⟨writesDispCtrl_pEx, by unfold At Running bitIs; decide⟩

/-- The answers to a bring-up whose two polls succeed at their second attempt. -/
def bringUpAnswers : List LinkAnswer :=
  [good 0x02#8, good 0x00#8] ++ List.replicate 10 (good 0x00#8) ++
    [good 0x00#8, good 0x00#8, good 0x00#8, good 0x01#8] ++ List.replicate 42 (good 0x00#8)

theorem witness_BringUpRunsItsTwelveSteps :
    let s : State := { running .initDisp 0 bringUpAnswers with timerIn := [false, true] }
    let pre := sdramFrames Config.pEx
    Running .initDisp s ∧ s.seq = 0 ∧ s.resetIn = [] ∧ s.timer = none ∧ timerTakesAll 1 s.timerIn = 2 ∧
    PollSees s 0 1 1 s.cfg.status.readyMask s.cfg.status.readyLevel ∧
    PollSees s (1 + 1 + pre.length + 1) 2 1 s.cfg.sdram.doneMask s.cfg.sdram.doneLevel ∧
    Clean (1 + 1 + pre.length + 2 * (1 + 1) + (bringUpFrames s.cfg).length) s := by
  unfold Running PollSees Clean bitIs; decide

theorem witness_SdramPollOfManyAttempts :
    let s : State := { running .initMem 10 [good 0x00#8, good 0x00#8, good 0x00#8, good 0x01#8] with timerIn := [false] }
    Running .initMem s ∧ s.resetIn = [] ∧ s.timer = none ∧ s.seq = (sdramFrames s.cfg).length ∧
    timerTakesAll 1 s.timerIn = 2 ∧
    PollSees s 1 2 1 s.cfg.sdram.doneMask s.cfg.sdram.doneLevel ∧ Clean (2 * (1 + 1)) s := by
  unfold Running PollSees Clean bitIs; decide

theorem witness_TogglesWriteBackAllOtherBits :
    At (.enableDisplay true) 0 0x00#8 ∧ At (.enableDisplay false) 1 0xA5#8 ∧ At (.enableTestPattern true) 2 0x00#8 ∧
    At (.enableTestPattern false) 3 0x00#8 ∧ At (.enableTextMode true) 1 0xFF#8 ∧ At (.enableTextMode false) 3 0x00#8 := by
  unfold At; decide

/-- DOC's text of 17 bytes. -/
def text17 : List Byte :=
  [0x30#8, 0x31#8, 0x32#8, 0x33#8, 0x34#8, 0x35#8, 0x36#8, 0x37#8, 0x38#8, 0x39#8, 0x41#8, 0x42#8, 0x43#8, 0x44#8, 0x45#8,
   0x46#8, 0x47#8]

theorem witness_TextIsSentInChunksBetweenPolls :
    text17.length ≤ 65535 ∧ At (.writeText []) 0 0x00#8 ∧ 16 * 1 < text17.length ∧ At (.writeText text17) 4 0x40#8 ∧
    bitIs 0x40#8 Config.pEx.status.wfifoMask Config.pEx.status.wfifoEmptyLevel ∧ At (.writeText text17) 4 0x00#8 ∧
    ¬ bitIs 0x00#8 Config.pEx.status.wfifoMask Config.pEx.status.wfifoEmptyLevel ∧ At (.writeText text17) 5 0x00#8 ∧
    At (.writeText text17) 6 0x00#8 ∧ At (.writeText text17) 7 0x40#8 ∧
    bitIs 0x40#8 Config.pEx.status.busyMask (!Config.pEx.status.busyLevel) ∧ At (.writeText text17) 7 0x48#8 ∧
    ¬ bitIs 0x48#8 Config.pEx.status.busyMask (!Config.pEx.status.busyLevel) := by unfold At bitIs; decide

theorem witness_WholeTextIsSentPieceByPiece :
    let s := running (.writeText text17) 0 (List.replicate 8 (good 0x40#8))
    Running (.writeText text17) s ∧ s.seq = 0 ∧ s.resetIn = [] ∧ text17 ≠ [] ∧ Pieces text17 [text17.take 16, [0x47#8]] ∧
    Clean (4 * 2) s ∧
    (∀ k, k < 2 →
      bitIs ((later (4 * k) s).rxByte 1) s.cfg.status.wfifoMask s.cfg.status.wfifoEmptyLevel ∧
      bitIs ((later (4 * k + 3) s).rxByte 1) s.cfg.status.busyMask (!s.cfg.status.busyLevel)) := by
  refine ⟨by unfold Running; decide, rfl, rfl, by decide, ?_, by unfold Clean; decide, by unfold bitIs; decide⟩
  exact ⟨by decide, by decide, fun _ => by decide, [0x47#8], by decide, by decide, by decide, fun h => absurd rfl h, [], rfl, rfl⟩

theorem witness_CursorSettersArePairedWrites :
    Ends (.setTextCursorX 0xFFFF#16) (wr16Frames Config.pEx.regs.tcurX 0xFFFF#16) ∧
    Ends (.setTextCursorY 0#16) (wr16Frames Config.pEx.regs.tcurY 0#16) := by unfold Ends; decide

theorem witness_CursorReadReturnsThePair :
    At .getTextCursorY 0 0x00#8 ∧ At .getTextCursorY 1 0x2C#8 ∧ At .getTextCursorY 2 0x00#8 ∧ At .getTextCursorY 3 0x01#8 := by
  unfold At; decide

theorem witness_BteFieldWritersSendTheirRegisters :
    Ends (.bteDestAddr 0xFFFFFFFF#32) (wr32Frames Config.pEx.regs.bteDestAddr 0xFFFFFFFF#32) ∧
    Ends (.bteDestPos 0#16 0xFFFF#16)
      (wr16Frames Config.pEx.regs.bteDestX 0#16 ++ wr16Frames Config.pEx.regs.bteDestY 0xFFFF#16) ∧
    Ends (.bteColorDepth 3#8 7#8 3#8) (wr8Frames Config.pEx.regs.bteColr 0x7F#8) ∧
    Ends (.bteAlpha 0xFF#8) (wr8Frames Config.pEx.regs.bteAlpha 0xFF#8) ∧
    Ends (.bteDestWidth 0#16) (wr16Frames Config.pEx.regs.bteDestWidth 0#16) ∧
    Ends (.bteWidth 1#16) (wr16Frames Config.pEx.regs.bteWidth 1#16) ∧
    Ends (.bteHeight 0xFFFF#16) (wr16Frames Config.pEx.regs.bteHeight 0xFFFF#16) ∧
    Ends (.setFgColor 0#8 0#8 0xFF#8) (wr8Frames Config.pEx.regs.fgcR 0#8 ++ wr8Frames Config.pEx.regs.fgcG 0#8 ++
      wr8Frames Config.pEx.regs.fgcB 0xFF#8) := by unfold Ends; decide +kernel

theorem witness_BteSetupWritesThePackedByte :
    Ends (.bteSetup 0x0F#8 0x0F#8) (wr8Frames Config.pEx.regs.bteSetup 0xFF#8) := by unfold Ends; decide +kernel

theorem witness_BteStartPreservesOtherBits :
    At .bteStart 0 0x00#8 ∧ At .bteStart 1 0x8F#8 ∧ At .bteStart 2 0x00#8 ∧ At .bteStart 3 0x00#8 := by unfold At; decide

theorem witness_BteWaitPollsUntilNotBusy :
    At .bteWait 0 0x00#8 ∧ At .bteWait 1 0xEF#8 ∧
    bitIs 0xEF#8 Config.pEx.bte.busyMask (!Config.pEx.bte.busyLevel) ∧ At .bteWait 1 0x10#8 ∧
    ¬ bitIs 0x10#8 Config.pEx.bte.busyMask (!Config.pEx.bte.busyLevel) := by unfold At bitIs; decide

theorem witness_FillStepsOneFrameAtATime :
    Config.pEx.bte.colr Config.pEx.bte.depth24 Config.pEx.bte.depth24 Config.pEx.bte.depth24 = some 0x4A#8 ∧
    Config.pEx.bte.setup Config.pEx.bte.ropWhite Config.pEx.bte.opcSolidFill = some 0xFC#8 ∧
    (fillWrites Config.pEx 0#8 0#8 0xFF#8 0x4A#8 0xFC#8).length = 34 ∧
    (∀ k ∈ [0, 33, 34, 35, 36, 37], At (.fill 0#8 0#8 0xFF#8) k 0x00#8) := by unfold At; decide +kernel

theorem witness_FillSendsItsFramesInTheExactOrder :
    let s := running (.fill 0#8 0#8 0xFF#8) 0 (List.replicate 38 (good 0x8F#8))
    Running (.fill 0#8 0#8 0xFF#8) s ∧ s.seq = 0 ∧ s.resetIn = [] ∧ Clean 38 s ∧
    s.cfg.bte.colr s.cfg.bte.depth24 s.cfg.bte.depth24 s.cfg.bte.depth24 = some 0x4A#8 ∧
    s.cfg.bte.setup s.cfg.bte.ropWhite s.cfg.bte.opcSolidFill = some 0xFC#8 := by unfold Running Clean; decide +kernel

/-- For `FaultIsTakenExactlyOnAnError`, `OneStepIsOneFrame`, `OnlySdramInitialisationDelays`, `ResultsAreOfTheirKind`,
`StepFramesConfigurationAndTrace`: a step with an error, two with a good frame and one with a delay. -/
theorem witness_StepOfARunningOperation :
    (WellFormed.check Config.pEx .stsr = none ∧ ∃ t, exec .stsr (running .stsr 0 [bad]) = .next t ∧ t.fault = true) ∧
    (∃ t, exec .stsr (running .stsr 0 [good 0x48#8]) = .next t ∧ t.fault = false ∧ t.opv = false) ∧
    (WellFormed.check Config.pEx .getTextCursorY = none ∧
      ∃ t, exec .getTextCursorY (running .getTextCursorY 0 [good 0x00#8]) = .next t ∧ t.opv = true) ∧
    (WellFormed.check Config.pEx .initMem = none ∧
      ∃ t, exec .initMem (running .initMem 12 []) = .next t ∧ Safety.delays t.trace ≠ []) :=
  ⟨⟨by decide, _, rfl, rfl⟩, ⟨_, rfl, rfl, rfl⟩, ⟨by decide, _, rfl, rfl⟩, ⟨by decide, _, rfl, by decide⟩⟩

/-- Steps of the four kinds `SeqCountsWhatIsCompleted` tells apart: a frame that moves on, a poll set back, a frame with
an error, the end of a delay. -/
theorem witness_SeqCountsWhatIsCompleted :
    nextFrame .bteWait (running .bteWait 1 []) ≠ none ∧
    look State.seq (exec .bteWait (running .bteWait 0 [good 0x00#8])) = some 1 ∧
    look State.seq (exec .bteWait (running .bteWait 1 [good 0x10#8])) = some 0 ∧
    look State.seq (exec .bteWait (running .bteWait 1 [bad])) = some 1 ∧
    nextFrame .initMem (delaying .initMem 12 (some 1) [true]) = none ∧
    look State.seq (exec .initMem (delaying .initMem 12 (some 1) [true])) = some 10 := by decide

/-- A failed attempt of each poll `PollMissed` names. -/
theorem witness_PollMissed :
    PollMissed Config.pEx (.pollr 0x90#8 0x10#8 false) 1 0x10#8 ∧ PollMissed Config.pEx (.polls 0x40#8 true) 0 0xBF#8 ∧
    PollMissed Config.pEx .waitReady 0 0x02#8 ∧ PollMissed Config.pEx .initDisp 0 0x02#8 ∧
    PollMissed Config.pEx .bteWait 1 0x10#8 ∧ PollMissed Config.pEx (.writeText text17) 4 0x00#8 ∧
    PollMissed Config.pEx (.writeText text17) 7 0x48#8 := by
  refine ⟨.inl ⟨_, _, _, rfl, rfl, ?_⟩, .inr (.inl ⟨_, _, rfl, rfl, ?_⟩), .inr (.inr (.inl ⟨.inl rfl, rfl, ?_⟩)),
    .inr (.inr (.inl ⟨.inr rfl, rfl, ?_⟩)), .inr (.inr (.inr (.inl ⟨rfl, rfl, ?_⟩))),
    .inr (.inr (.inr (.inr ⟨_, rfl, .inl ⟨rfl, ?_⟩⟩))), .inr (.inr (.inr (.inr ⟨_, rfl, .inr ⟨rfl, ?_⟩⟩)))⟩ <;>
    unfold bitIs <;> decide

theorem witness_RegisterPollCanRunForEver :
    let s := running (.pollr 0x90#8 0x10#8 false) 0 [good 0x10#8, good 0x10#8, good 0x10#8, good 0x10#8]
    Running (.pollr 0x90#8 0x10#8 false) s ∧ s.seq = 0 ∧ s.resetIn = [] ∧ Clean (2 * 2) s ∧
    (∀ k, k < 2 → ¬ bitIs ((later (2 * k + 1) s).rxByte 1) 0x10#8 false) := by unfold Running Clean bitIs; decide

theorem witness_RegisterPollEndsAtTheFirstHit :
    let s := running (.pollr 0x90#8 0x10#8 false) 0 [good 0x00#8, good 0x10#8, good 0x00#8, good 0xEF#8]
    Running (.pollr 0x90#8 0x10#8 false) s ∧ s.seq = 0 ∧ s.resetIn = [] ∧ Clean (2 * (1 + 1)) s ∧
    PollSees s 1 2 1 0x10#8 false := by unfold Running Clean PollSees bitIs; decide

theorem witness_StatusPollEndsAtTheFirstHit :
    let s := running (.polls 0x40#8 true) 0 [good 0x00#8, good 0x40#8]
    Running (.polls 0x40#8 true) s ∧ s.seq = 0 ∧ s.resetIn = [] ∧ Clean (1 + 1) s ∧ PollSees s 0 1 1 0x40#8 true := by
  unfold Running Clean PollSees bitIs; decide

theorem witness_StepKeepsTheInvariant :
    let s : State := { running .bteWait 1 [good 0x10#8] with
      trace := [.csLow, .xfer 0x00#8 0x00#8, .xfer 0x90#8 0x00#8, .csHigh] }
    Safety.Inv s ∧ ∃ t, step s = .next t :=
  ⟨⟨by decide, by decide, by decide, by decide, fun _ => .inr (by decide), nofun⟩, _, rfl⟩

/-- A state with a delay pending at the timer has the invariant. -/
theorem witness_StepKeepsTheInvariant_delay :
    let s : State := { delaying .initMem 12 (some 1) [false] with trace := [.delay 1] }
    Safety.Inv s ∧ ∃ t, step s = .next t :=
  ⟨⟨by decide, by decide, by decide, by decide, fun _ => .inl (by decide),
    fun ms h => by cases h; exact ⟨rfl, 2, by decide⟩⟩, _, rfl⟩

theorem witness_DataRegistersAreNotReadBeforeWritten :
    let s := running (.enableDisplay true) 0 [good 0x00#8, good 0xA5#8, good 0x00#8, good 0x00#8]
    Running (.enableDisplay true) s ∧ s.seq = 0 ∧ ∀ k, k < 4 → ∀ u, runs k s = .next u → u.opv = true := by
  refine ⟨running_running _ _ (by decide), rfl, fun k hk u hu => ?_⟩
  have h : ∀ k, k < 4 → look State.opv
      (runs k (running (.enableDisplay true) 0 [good 0x00#8, good 0xA5#8, good 0x00#8, good 0x00#8])) = some true := by
    decide
  have := h k hk
  rw [hu] at this
  exact Option.some.inj this

/-- A step that takes a fault, and one that leaves it by reset. -/
theorem witness_FaultFlagIsStickyAndOnlyFromErrors :
    (∃ t, step (running .stsr 0 [bad]) = .next t ∧ (running .stsr 0 [bad]).fault = false ∧ t.fault = true) ∧
    (let s : State := { State.reset with fault := true, resetIn := [true] }
     ∃ t, step s = .next t ∧ s.fault = true ∧ t.fault = false) := ⟨⟨_, rfl, rfl, rfl⟩, _, rfl, rfl, rfl⟩

/-- Steps that enter and leave `Started`. -/
theorem witness_StartedEndsOnlyWithBteWait :
    (let s := running .bteStart 3 [good 0x00#8]
     ∃ t, step s = .next t ∧ s.resetIn.headD false = false ∧ s.btePhase ≠ .started ∧ t.btePhase = .started) ∧
    (let s : State := { running .bteWait 1 [good 0x00#8] with btePhase := .started }
     ∃ t, step s = .next t ∧ s.resetIn.headD false = false ∧ s.btePhase = .started ∧ t.btePhase ≠ .started) :=
  ⟨⟨_, rfl, rfl, by decide, rfl⟩, _, rfl, rfl, rfl, by decide⟩

/-- Steps that change the life cycle: the first of `INIT_MEM` and the last of `INIT_DISP`. -/
theorem witness_OnlyBringUpChangesTheLifecycle :
    (let s := running .initMem 0 [good 0x00#8]
     ∃ t, step s = .next t ∧ s.resetIn.headD false = false ∧ t.lifecycle ≠ s.lifecycle) ∧
    (let s := running .initDisp 54 [good 0x00#8]
     ∃ t, step s = .next t ∧ s.resetIn.headD false = false ∧ t.lifecycle ≠ s.lifecycle ∧ t.lifecycle = .configured) :=
  ⟨⟨_, rfl, rfl, by decide⟩, _, rfl, rfl, by decide, rfl⟩

/-- A reference target whose registers all hold `0xA5` (D12, program P1). -/
def store : RefTarget :=
  { ptr := 0x00#8, reg := fun _ => 0xA5#8, readScript := fun _ => [], statusScript := [], lastStatus := 0x00#8,
    dataLog := fun _ => [], log := [] }

theorem witness_ToggleOnThenOffRestoresOtherBits :
    let d : State := { State.reset with hostIn := [0x30#8, 0x01#8, 0x30#8, 0x00#8] }
    d.resetIn = [] ∧ d.fault = false ∧ d.opv = false ∧ d.cs = true ∧ WellFormed.oneBit d.cfg.display.onMask = true ∧
    d.hostIn = 0x30#8 :: 0x01#8 :: 0x30#8 :: 0x00#8 :: [] ∧ store.readScript d.cfg.regs.dispCtrl = [] := by decide

end Sys2Proof.Tests
end

section
/-! PROOFS. What a step of an operation does to `RESULT` (R82, R84, R212): a frame that reports an error hands back the
fault, any other step either goes on or completes with the result of the operation. -/

namespace Sys2Proof.Machine

open Sys2Proof

/-- The two ways from `s` to `t` without a fault: the operation goes on with `RESULT` as it was, or it completes with
the result `res` (R82). -/
def GoesOnOrCompletes (res : State → Result) (s t : State) : Prop :=
  (t.opv = s.opv ∧ t.result = s.result) ∨ ∃ u, t = complete res u

/-- The start of an operation changes ghost state only. -/
theorem startOp_eq_applyMarks (p : Prog) (s : State) : ∃ gs, startOp p s = applyMarks gs s := by
  by_cases h : s.seq = 0
  · exact ⟨p.marks 0, by simp [startOp, h]⟩
  · exact ⟨[], startOp_later p h⟩

/-- A step while a delay is due leaves `OPV`, `RESULT` and `FAULT` and sends no frame. -/
theorem delayStep_frame (ms n : Nat) (s : State) :
    (delayStep ms n s).opv = s.opv ∧ (delayStep ms n s).result = s.result ∧
    (delayStep ms n s).fault = s.fault ∧ (delayStep ms n s).draws = s.draws := by
  obtain ⟨-, h⟩ | ⟨-, -, h⟩ | ⟨-, -, h⟩ := delayStep_cases ms n s <;> simp [h]

/-- A move completes the operation exactly where it goes forward past the last position. -/
theorem move_goesOnOrCompletes (p : Prog) (res : State → Result) (m : Move) (s : State) :
    GoesOnOrCompletes res s (move p res m s) := by
  cases m with
  | back n => exact .inl ⟨rfl, rfl⟩
  | wait ms n => exact .inl ⟨rfl, rfl⟩
  | fwd n =>
    rcases Nat.lt_or_ge (s.seq + n) p.size with h | h
    · left; simp [move, arrive_inside res s h]
    · exact .inr ⟨_, arrive_end res s h⟩

/-- A frame position takes the fault where the link reports an error; else the operation goes on or completes. -/
theorem runFrame_cases (p : Prog) (res : State → Result) (m : Micro) (s : State) :
    (∃ e, s.answer.err = some e ∧ runFrame p res m s = frameFailed e (m.act.tx s) s) ∨
    (s.answer.err = none ∧ (runFrame p res m s).fault = s.fault ∧
      GoesOnOrCompletes res s (runFrame p res m s)) := by
  cases he : s.answer.err with
  | some e => exact .inl ⟨e, rfl, frame_err _ _ he⟩
  | none =>
    obtain ⟨mv, hmv⟩ := follow_eq_move p res m.ctl (store m (s.rxByte 1) (frameSent (m.act.tx s) s))
    have h : runFrame p res m s = move p res mv (store m (s.rxByte 1) (frameSent (m.act.tx s) s)) :=
      (frame_ok _ _ he).trans hmv
    obtain ⟨-, -, -, -, hfault, -⟩ := move_frame p res mv (store m (s.rxByte 1) (frameSent (m.act.tx s) s))
    rw [h]
    exact .inr ⟨rfl, hfault, move_goesOnOrCompletes p res mv _⟩

/-- What a step of an operation hands back: the fault where its frame reports an error, else nothing or `res`. -/
theorem perform_handsBack {i : Instr} {p : Prog} {res : State → Result} {s t : State}
    (h : perform i p res s = .next t) :
    (s.answer.err ≠ none ∧ t.fault = true ∧ t.opv = false ∧ t.result = .fault { op := s.op, seq := s.seq }) ∨
    ((s.answer.err = none ∨ t.draws = s.draws) ∧ t.fault = s.fault ∧ GoesOnOrCompletes res s t) := by
  obtain ⟨gs, hgs⟩ := startOp_eq_applyMarks p s
  obtain ⟨-, ⟨ms, n, -, rfl⟩ | ⟨-, -, rfl⟩ | ⟨m, -, -, -, rfl⟩⟩ := perform_cases h
  · obtain ⟨hopv, hresult, hfault, hdraws⟩ := delayStep_frame ms n s
    exact .inr ⟨.inr hdraws, hfault, .inl ⟨hopv, hresult⟩⟩
  · exact .inr ⟨.inr (by simp [hgs]), by simp [hgs], .inr ⟨_, rfl⟩⟩
  · have hanswer : (startOp p s).answer = s.answer := answer_congr (by simp [hgs]) (by simp [hgs])
    obtain ⟨e, he, ht⟩ | ⟨he, hfault, hon⟩ := runFrame_cases p res m (startOp p s)
    · rw [ht]
      exact .inl ⟨by simp [← hanswer, he], by simp, by simp, by simp [hgs]⟩
    · rw [hanswer] at he
      refine .inr ⟨.inl he, by simpa [hgs] using hfault, ?_⟩
      simpa [GoesOnOrCompletes, hgs] using hon

/-- The host operations that complete with `Ok`: all but the byte reads and the cursor read (R82). -/
theorem resultOf_eq_resultOk {i : Instr} (hcursor : i ≠ .getTextCursorY) (hstsr : i ≠ .stsr) (hdatr : i ≠ .datr)
    (hframe : i.isFrame = false) (hrd8 : ∀ a, i ≠ .rd8 a) : resultOf i = resultOk := by
  unfold resultOf
  split
  case h_1 => cases hframe
  case h_2 => cases hframe
  case h_3 => exact absurd rfl hstsr
  case h_4 => exact absurd rfl hdatr
  case h_5 a => exact absurd rfl (hrd8 a)
  case h_6 => exact absurd rfl hcursor
  case h_7 => rfl

/-- The operations that read one byte complete with `OkByte` of `RX` (R82). -/
theorem resultOf_eq_resultByte {i : Instr} (h : i = .stsr ∨ i = .datr ∨ ∃ a, i = .rd8 a) :
    resultOf i = resultByte := by
  obtain rfl | rfl | ⟨a, rfl⟩ := h <;> rfl

end Sys2Proof.Machine

namespace Sys2Proof.Claim

open Sys2Proof Machine

/-- Settles O55: every meaning is a step of its expansion with the result of its kind, and such a step hands back the
fault, nothing, or that result. -/
theorem resultsAreOfTheirKind : Obligations.ResultsAreOfTheirKind := by
  intro i s t hrun hexec
  obtain ⟨hopv, hop, hfault, -, -⟩ := hrun
  rw [exec_eq_perform] at hexec
  obtain ⟨herr, htf, hto, hres⟩ | ⟨hframe, htf, hon⟩ := perform_handsBack hexec
  · rw [hop] at hres
    simp [htf, hto, hres]
  · have hnoerr : t.draws ≠ s.draws → s.answer.err ≠ none → t.result = .fault { op := i, seq := s.seq } :=
      fun hd he => (hframe.elim he hd).elim
    have hnofault : t.fault = true → t.result = .fault { op := i, seq := s.seq } :=
      fun hf => by simp [htf, hfault] at hf
    obtain ⟨hto, hres⟩ | ⟨u, rfl⟩ := hon
    · refine ⟨fun _ => hres, fun hdone => ?_, hnofault, hnoerr⟩
      simp [hto, hopv] at hdone
    · refine ⟨fun ho => ?_, fun _ _ => ⟨?_, fun hbyte => ?_, ?_⟩, hnofault, hnoerr⟩
      · simp at ho
      · rintro rfl
        exact ⟨_, rfl⟩
      · simp [resultOf_eq_resultByte hbyte, resultByte]
      · rintro ⟨hcursor, hstsr, hdatr, hwire, hrd8⟩
        simp [resultOf_eq_resultOk hcursor hstsr hdatr hwire hrd8, resultOk]

end Sys2Proof.Claim
end

section
/-! PROOFS. The step of a running operation whose expansion sends frames only, as a `FrameStep`: it goes on, goes back,
or completes with its ghost updates, by the move that follows the position (R15, R84, R100). -/

namespace Sys2Proof.Machine

open Sys2Proof

/-! ### Expansions without a delay -/

/-- A poll with a delay between its attempts (R141). -/
def Item.delays : Item → Bool
  | .micro { ctl := .poll _ _ _ (.wait _ _), .. } => true
  | _ => false

/-- No ghost update stands at the start of the expansion, and it never requests a delay. -/
structure Prog.FramesOnly (p : Prog) : Prop where
  starts : p.marks 0 = []
  undelayed : p.any Item.delays = false

/-- A position of an expansion is one of its lines. -/
theorem Prog.mem_of_pos {p : Prog} {k : Nat} {m : Micro} (h : p.pos k = some m) : Item.micro m ∈ p := by
  induction p generalizing k with
  | nil => simp at h
  | cons x p ih =>
    cases x with
    | mark g => exact .tail _ (ih (by simpa using h))
    | micro n =>
      cases k with
      | zero =>
        obtain rfl : n = m := by simpa using h
        exact .head _
      | succ k => exact .tail _ (ih (by simpa using h))

theorem Prog.FramesOnly.due {p : Prog} (hp : p.FramesOnly) (s : State) : p.due s = none := by
  cases hd : p.due s with
  | none => rfl
  | some d =>
    obtain ⟨k, m, mask, t, hit, -, hpos, hctl, -⟩ := Prog.due_eq_some.mp hd
    have hm := List.any_eq_false.mp hp.undelayed _ (Prog.mem_of_pos hpos)
    obtain ⟨act, save, ctl⟩ := m
    cases hctl
    simp [Item.delays] at hm

/-! ### What follows a position -/

/-- The move that follows a position when `RX` then holds `b`. -/
def Ctl.next (b : Byte) : Ctl → Move
  | .go m => m
  | .poll mask t hit miss => if pollHit b mask t then hit else miss

theorem follow_eq_move_next (p : Prog) (res : State → Result) (c : Ctl) (s : State) :
    follow p res c s = move p res (c.next s.rx) s := by
  cases c <;> rfl

/-- A result reads `RX` and `TMP` alone (R82). -/
theorem resultOf_congr (i : Instr) {s t : State} (hrx : s.rx = t.rx) (htmp : s.tmp = t.tmp) :
    resultOf i s = resultOf i t := by
  unfold resultOf
  split <;> simp [resultByte, resultHalf, resultOk, hrx, htmp]

/-- Completion and a ghost update commute: no result reads ghost state. -/
theorem complete_applyMark (i : Instr) (g : Mark) (s : State) :
    complete (resultOf i) (applyMark s g) = applyMark (complete (resultOf i) s) g := by
  rw [complete, resultOf_congr i (applyMark_rx s g) (applyMark_tmp s g)]
  cases g <;> rfl

theorem complete_applyMarks (i : Instr) (gs : List Mark) (s : State) :
    complete (resultOf i) (applyMarks gs s) = applyMarks gs (complete (resultOf i) s) := by
  induction gs generalizing s with
  | nil => rfl
  | cons g gs ih => rw [applyMarks_cons, applyMarks_cons, ih, complete_applyMark]

end Sys2Proof.Machine

namespace Sys2Proof.Claim

open Sys2Proof Machine

/-! ### The words of the statements and the model's -/

/-- With chip-select released before it, a frame leaves the state the statements write out. -/
theorem frameSent_eq_afterFrame {s : State} (hcs : s.cs = true) (tx : List Byte) :
    frameSent tx s = afterFrame tx s := by
  cases s
  cases hcs
  rfl

theorem frameFailed_eq_afterFault (e : LinkError) (tx : List Byte) (s : State) :
    frameFailed e tx s = afterFault tx e s := rfl

@[simp] theorem afterFrame_seq (tx : List Byte) (s : State) : (afterFrame tx s).seq = s.seq := rfl

/-- Arriving at a position with no ghost update before it: the operation goes on there. -/
theorem arrive_eq_goOn {p : Prog} {k : Nat} (res : State → Result) (s : State) (hpos : (p.pos k).isSome = true)
    (hmarks : p.marks k = []) : arrive p res k s = goOn k s := by
  rw [arrive_inside res s ((p.pos_isSome k).mp hpos), hmarks]
  rfl

/-- Arriving past the last position: the operation is done, and the ghost updates at its end happen. -/
theorem arrive_eq_done {p : Prog} {k : Nat} (i : Instr) (s : State) (hpos : p.pos k = none) :
    arrive p (resultOf i) k s = applyMarks (p.marks k) (done k (resultOf i s) s) := by
  have hres : resultOf i { s with seq := k } = resultOf i s := resultOf_congr i rfl rfl
  rw [arrive_end _ s ((p.pos_eq_none k).mp hpos), complete_applyMarks, done, ← hres]
  rfl

/-- The poll test of the block is the one of R124. -/
theorem pollHit_iff_bitIs (v m : Byte) (t : Bool) : pollHit v m t = true ↔ bitIs v m t := by
  cases t <;> simp [pollHit, bitIs]

theorem next_poll_of_bitIs {b mask : Byte} {t : Bool} (hit miss : Move) (h : bitIs b mask t) :
    (Ctl.poll mask t hit miss).next b = hit := if_pos ((pollHit_iff_bitIs b mask t).mpr h)

theorem next_poll_of_not_bitIs {b mask : Byte} {t : Bool} (hit miss : Move) (h : ¬ bitIs b mask t) :
    (Ctl.poll mask t hit miss).next b = miss := if_neg (mt (pollHit_iff_bitIs b mask t).mp h)

/-- The mask check of R85 admits exactly the masks with one bit set. -/
theorem wellFormed_oneBit_iff (m : Byte) : WellFormed.oneBit m = true ↔ oneBit m := by
  have hpow : WellFormed.oneBit m = true ↔ m.toNat.isPowerOfTwo := by
    rw [← Nat.ne_zero_and_sub_one_eq_zero_iff_isPowerOfTwo]
    simp only [WellFormed.oneBit, Bool.and_eq_true, bne_iff_ne, beq_iff_eq, ne_eq, ← BitVec.toNat_inj,
      BitVec.toNat_and]
    refine and_congr_right fun h => ?_
    have hsub : (m - 1#8).toNat = m.toNat - 1 := by
      have : m.toNat ≠ 0 := h
      bv_omega
    rw [hsub]
    rfl
  have hshift (k : Nat) (hk : k < 8) : (1#8 <<< k).toNat = 2 ^ k := by
    have := Nat.pow_lt_pow_right (a := 2) (by decide) hk
    simp [Nat.shiftLeft_eq, Nat.mod_eq_of_lt this]
  rw [hpow]
  constructor
  · rintro ⟨k, hk⟩
    have hlt : k < 8 := (Nat.pow_lt_pow_iff_right (a := 2) (by decide)).mp (hk ▸ m.isLt)
    exact ⟨k, hlt, BitVec.eq_of_toNat_eq (hk.trans (hshift k hlt).symm)⟩
  · rintro ⟨k, hk, rfl⟩
    exact ⟨k, hshift k hk⟩

/-! ### The step of a frame position

What the expansion has at a position and behind it is computed from a written-out expansion: those premises are closed
by `rfl` where a use gives none. -/

section

variable {i : Instr} {s : State} {p : Prog} {k : Nat}

/-- The step of a frame position: one frame, the byte it read stored, and the move that follows. -/
theorem frameStep_of_pos (m : Micro) {ok : State → State} (hrun : Running i s) (hexp : expansion s.cfg i = p)
    (hp : p.FramesOnly) (hpos : p.pos s.seq = some m)
    (hok : move p (resultOf i) (m.ctl.next (store m (s.rxByte 1) s).rx)
      (store m (s.rxByte 1) (afterFrame (m.act.tx s) s)) = ok (afterFrame (m.act.tx s) s)) :
    FrameStep i s (m.act.tx s) ok := by
  obtain ⟨-, -, -, hcs, hcheck⟩ := hrun
  have hexec : exec i s = .next (runFrame p (resultOf i) m s) := by
    rw [exec_eq_perform, hexp, perform_frame _ hcheck (hp.due s) hpos hcs, startOp_plain s hp.starts]
  rw [FrameStep, hexec]
  refine ⟨fun herr => ?_, fun e herr => ?_⟩
  · rw [runFrame, frame_ok _ _ herr, frameSent_eq_afterFrame hcs, follow_eq_move_next, ← hok]
    rfl
  · rw [runFrame, frame_err _ _ herr, frameFailed_eq_afterFault]

/-- A position followed at once by another, with no ghost update between. -/
theorem frameStep_goOn (m : Micro) (hrun : Running i s) (hexp : expansion s.cfg i = p) (hp : p.FramesOnly)
    (hseq : s.seq = k) (hpos : p.pos k = some m := by rfl) (hnext : (p.pos (k + 1)).isSome = true := by rfl)
    (hmarks : p.marks (k + 1) = [] := by rfl) (hmove : m.ctl.next (store m (s.rxByte 1) s).rx = .fwd 1 := by rfl) :
    FrameStep i s (m.act.tx s) fun u => goOn (k + 1) (store m (s.rxByte 1) u) := by
  subst hseq
  refine frameStep_of_pos m hrun hexp hp hpos ?_
  rw [hmove, move, store_seq, afterFrame_seq, arrive_eq_goOn _ _ hnext hmarks]

/-- A poll that starts its loop again, `n` positions before. -/
theorem frameStep_goBack (m : Micro) (n : Nat) (hrun : Running i s) (hexp : expansion s.cfg i = p) (hp : p.FramesOnly)
    (hseq : s.seq = k) (hmove : m.ctl.next (store m (s.rxByte 1) s).rx = .back n)
    (hpos : p.pos k = some m := by rfl) :
    FrameStep i s (m.act.tx s) fun u => goOn (k - n) (store m (s.rxByte 1) u) := by
  subst hseq
  refine frameStep_of_pos m hrun hexp hp hpos ?_
  rw [hmove]
  rfl

/-- The last position: the operation completes with its result, and the ghost updates at its end happen. -/
theorem frameStep_last (m : Micro) (hrun : Running i s) (hexp : expansion s.cfg i = p) (hp : p.FramesOnly)
    (hseq : s.seq = k) (hpos : p.pos k = some m := by rfl) (hend : p.pos (k + 1) = none := by rfl)
    (hmove : m.ctl.next (store m (s.rxByte 1) s).rx = .fwd 1 := by rfl) :
    FrameStep i s (m.act.tx s) fun u => applyMarks (p.marks (k + 1))
      (done (k + 1) (resultOf i (store m (s.rxByte 1) s)) (store m (s.rxByte 1) u)) := by
  subst hseq
  refine frameStep_of_pos m hrun hexp hp hpos ?_
  have hres : resultOf i (store m (s.rxByte 1) (afterFrame (m.act.tx s) s)) = resultOf i (store m (s.rxByte 1) s) :=
    resultOf_congr i rfl rfl
  rw [hmove, move, store_seq, afterFrame_seq, arrive_eq_done i _ hend, hres]

end

end Sys2Proof.Claim
end

section
/-! PROOFS. The register reads and polls, the toggles and the cursor read: their host words, their expansions and the
steps of their positions (R123 to R127, R140, R155 to R158, R162). -/

namespace Sys2Proof

open Operands

/-- A read-modify-write leaves every bit outside its mask as read (R127). -/
theorem rmw_and_not (r m : Byte) (e : Bool) : rmw r m e &&& ~~~m = r &&& ~~~m := by
  cases e
  · simp [rmw, BitVec.and_assoc]
  · ext j hj
    cases h : m[j] <;> simp [rmw, h]

/-- A read-modify-write gives the bit of its mask the new value (R127). -/
theorem rmw_and_mask (r m : Byte) (e : Bool) : rmw r m e &&& m = if e then m else 0#8 := by
  cases e
  · simp [rmw, BitVec.and_assoc]
  · ext j hj
    cases h : m[j] <;> simp [rmw, h]

end Sys2Proof

namespace Sys2Proof.Claim

open Sys2Proof Machine Operands

/-! ### The expansions -/

theorem rd8_framesOnly (ph a : Byte) : (rd8 ph a).FramesOnly := ⟨rfl, rfl⟩
theorem rd16_framesOnly (ph a : Byte) : (rd16 ph a).FramesOnly := ⟨rfl, rfl⟩
theorem pollr_framesOnly (ph a m : Byte) (t : Bool) : (pollr ph a m t).FramesOnly := ⟨rfl, rfl⟩
theorem polls_framesOnly (ph m : Byte) (t : Bool) : (polls ph m t).FramesOnly := ⟨rfl, rfl⟩
theorem rmwb_mark_framesOnly (ph a m : Byte) (e : Bool) (g : Mark) : (rmwb ph a m e ++ [Item.mark g]).FramesOnly :=
  ⟨rfl, rfl⟩

/-! ### `RD8` -/

/-- Settles O19: the two positions of `RD8`, the second completing with the byte read. -/
theorem registerReadReturnsTheByteRead : Obligations.RegisterReadReturnsTheByteRead := by
  intro s a
  refine ⟨⟨rfl, fun _ => rfl⟩, fun hrun => ⟨fun hseq => ?_, fun hseq => ?_⟩⟩
  · exact frameStep_goOn { act := .cmdw a } hrun rfl (rd8_framesOnly _ _) hseq
  · exact frameStep_last { act := .datr s.cfg.wire.ph } hrun rfl (rd8_framesOnly _ _) hseq

/-! ### The polls -/

/-- An operation whose only check is that of its mask is refused where the mask has no bit or several (R85). -/
theorem exec_refused_of_not_oneBit {i : Instr} {s : State} {m : Byte}
    (hbroken : WellFormed.broken s.cfg i = WellFormed.need (WellFormed.oneBit m) .oneBitMask) (hmask : ¬ oneBit m) :
    exec i s = .refused (.illFormed .oneBitMask) := by
  have hfails : WellFormed.oneBit m = false := by simpa using mt (wellFormed_oneBit_iff m).mp hmask
  rw [exec_eq_perform]
  exact perform_illFormed _ _ (by simp [WellFormed.check, hbroken, WellFormed.need, hfails])

/-- Settles O20: the byte of the second position decides between completion and the start of the loop. -/
theorem registerPollRepeatsUntilTheBit : Obligations.RegisterPollRepeatsUntilTheBit := by
  intro s a m t
  refine ⟨⟨rfl, fun _ => by cases t <;> rfl⟩, exec_refused_of_not_oneBit rfl,
    fun hrun => ⟨fun hseq => ?_, fun hseq hbit => ?_, fun hseq hbit => ?_⟩⟩
  · exact frameStep_goOn { act := .cmdw a } hrun rfl (pollr_framesOnly _ _ _ _) hseq
  · exact frameStep_last { act := .datr s.cfg.wire.ph, ctl := .poll m t (.fwd 1) (.back 1) } hrun rfl
      (pollr_framesOnly _ _ _ _) hseq (hmove := next_poll_of_bitIs _ _ hbit)
  · exact frameStep_goBack { act := .datr s.cfg.wire.ph, ctl := .poll m t (.fwd 1) (.back 1) } 1 hrun rfl
      (pollr_framesOnly _ _ _ _) hseq (next_poll_of_not_bitIs _ _ hbit)

/-- The step of an operation that is a status poll (R125): the byte read decides whether it completes. -/
theorem frameStep_polls {i : Instr} {s : State} {m : Byte} {t : Bool} (hrun : Running i s) (hseq : s.seq = 0)
    (hexp : expansion s.cfg i = polls s.cfg.wire.ph m t) (hres : resultOf i = resultOk) :
    (bitIs (s.rxByte 1) m t →
      FrameStep i s [0x40#8, s.cfg.wire.ph] fun u => done 1 .ok { u with rx := s.rxByte 1 }) ∧
    (¬ bitIs (s.rxByte 1) m t →
      FrameStep i s [0x40#8, s.cfg.wire.ph] fun u => goOn 0 { u with rx := s.rxByte 1 }) := by
  refine ⟨fun hbit => ?_, fun hbit => ?_⟩
  · have hlast := frameStep_last { act := .stsr s.cfg.wire.ph, ctl := .poll m t (.fwd 1) (.back 0) } hrun hexp
      (polls_framesOnly _ _ _) hseq (hmove := next_poll_of_bitIs _ _ hbit)
    rw [hres] at hlast
    exact hlast
  · exact frameStep_goBack { act := .stsr s.cfg.wire.ph, ctl := .poll m t (.fwd 1) (.back 0) } 0 hrun hexp
      (polls_framesOnly _ _ _) hseq (next_poll_of_not_bitIs _ _ hbit)

/-- Settles O21: `POLLS`, and `WAIT_READY` with the ready bit's parameters, are status polls. -/
theorem statusPollsRepeatUntilTheBit : Obligations.StatusPollsRepeatUntilTheBit := by
  intro s hseq
  refine ⟨fun m t => ⟨⟨rfl, fun _ => by cases t <;> rfl⟩, exec_refused_of_not_oneBit rfl, fun hrun => ?_⟩,
    ⟨rfl, fun _ => rfl⟩, fun hrun => ?_⟩
  · exact frameStep_polls hrun hseq rfl rfl
  · exact frameStep_polls hrun hseq rfl rfl

/-! ### The toggles -/

/-- An operation that is a read-modify-write with a ghost update at its end is a toggle of its bit (R127). -/
theorem toggles_of_rmwb {i : Instr} {s : State} {reg m : Byte} {e : Bool} (g : Mark) (hrun : Running i s)
    (hexp : expansion s.cfg i = rmwb s.cfg.wire.ph reg m e ++ [.mark g]) (hres : resultOf i = resultOk) :
    Toggles i s reg m e fun u => applyMark u g := by
  have hframes := rmwb_mark_framesOnly s.cfg.wire.ph reg m e g
  refine ⟨fun hseq => ?_, fun hseq => ?_, fun hseq => ?_,
    fun hseq => ⟨rmw s.tmp m e, ?_, rmw_and_not .., rmw_and_mask ..⟩⟩
  · exact frameStep_goOn { act := .cmdw reg } hrun hexp hframes hseq
  · exact frameStep_goOn { act := .datr s.cfg.wire.ph, save := true } hrun hexp hframes hseq
  · exact frameStep_goOn { act := .cmdw reg } hrun hexp hframes hseq
  · have hlast := frameStep_last { act := .datwRmw m e } hrun hexp hframes hseq
    rw [hres] at hlast
    exact hlast

/-- Settles O29: the three toggles are read-modify-writes that end with the update of their ghost. -/
theorem togglesWriteBackAllOtherBits : Obligations.TogglesWriteBackAllOtherBits := by
  intro s e
  refine ⟨⟨⟨rfl, fun _ => by cases e <;> rfl⟩, fun hrun => ?_⟩,
    ⟨⟨rfl, fun _ => by cases e <;> rfl⟩, fun hrun => ?_⟩,
    ⟨⟨rfl, fun _ => by cases e <;> rfl⟩, fun hrun => ?_⟩⟩
  · exact toggles_of_rmwb (.dispOn e) hrun rfl rfl
  · exact toggles_of_rmwb (.testOn e) hrun rfl rfl
  · exact toggles_of_rmwb (.textOn e) hrun rfl rfl

/-! ### The cursor read -/

/-- Settles O33: the four positions of the paired read; the low byte waits in `TMP` for the high one. -/
theorem cursorReadReturnsThePair : Obligations.CursorReadReturnsThePair := by
  intro s
  have hframes := rd16_framesOnly s.cfg.wire.ph s.cfg.regs.tcurY
  refine ⟨⟨rfl, fun _ => rfl⟩, fun hrun => ⟨fun hseq => ?_, fun hseq => ?_, fun hseq => ?_,
    fun hseq => ⟨half (s.rxByte 1) s.tmp, half_toNat _ _, ?_⟩⟩⟩
  · exact frameStep_goOn { act := .cmdw s.cfg.regs.tcurY } hrun rfl hframes hseq
  · exact frameStep_goOn { act := .datr s.cfg.wire.ph, save := true } hrun rfl hframes hseq
  · exact frameStep_goOn { act := .cmdw (pairHigh s.cfg.regs.tcurY) } hrun rfl hframes hseq
  · exact frameStep_last { act := .datr s.cfg.wire.ph } hrun rfl hframes hseq

end Sys2Proof.Claim
end

section
/-! PROOFS. Expansions that are rows of write frames: the configuration steps, `SET_DISPLAY_SIZE` and the cursor setters
(R120 to R122, R142 to R152, R160, R161). -/

namespace Sys2Proof.Machine

open Sys2Proof

/-! ### Rows of write frames -/

/-- A position that writes, and the frame it sends in every state (R101, R102, R105). -/
inductive Item.Writes : Item → List Byte → Prop
  | cmdw (a : Byte) : Writes (plain (.cmdw a)) [0x00#8, a]
  | datw (d : Byte) : Writes (plain (.datw d)) [0x80#8, d]
  | datwb (ds : List Byte) : Writes (plain (.datwb ds)) (0x80#8 :: ds)

theorem Item.Writes.exists_act {x : Item} {tx : List Byte} (h : x.Writes tx) :
    ∃ a : Act, x = plain a ∧ a.reads = false ∧ ∀ s, a.tx s = tx := by
  cases h <;> exact ⟨_, rfl, rfl, fun _ => rfl⟩

/-- An expansion is a row of writing positions that send the frames `fs`. -/
def Prog.Writes (p : Prog) (fs : List (List Byte)) : Prop := List.Forall₂ Item.Writes p fs

namespace Prog.Writes

variable {p q : Prog} {fs gs : List (List Byte)}

theorem append (hp : p.Writes fs) (hq : q.Writes gs) : Prog.Writes (p ++ q) (fs ++ gs) := List.rel_append hp hq

theorem size_eq (h : p.Writes fs) : p.size = fs.length := by
  induction h with
  | nil => rfl
  | cons hx _ ih =>
    obtain ⟨a, rfl, -, -⟩ := hx.exists_act
    exact congrArg (· + 1) ih

theorem marks_eq_nil (h : p.Writes fs) (k : Nat) : p.marks k = [] := by
  induction h generalizing k with
  | nil => exact Prog.marks_nil k
  | cons hx _ ih =>
    obtain ⟨a, rfl, -, -⟩ := hx.exists_act
    cases k with
    | zero => rfl
    | succ k => exact ih k

/-- The position that sends a frame of the row: it reads nothing and goes on to the next one. -/
theorem exists_pos (h : p.Writes fs) {k : Nat} {tx : List Byte} (hk : fs[k]? = some tx) :
    ∃ a : Act, p.pos k = some { act := a } ∧ a.reads = false ∧ ∀ s, a.tx s = tx := by
  induction h generalizing k with
  | nil => simp at hk
  | cons hx _ ih =>
    obtain ⟨a, rfl, hreads, htx⟩ := hx.exists_act
    cases k with
    | zero =>
      obtain rfl := Option.some.inj hk
      exact ⟨a, rfl, hreads, htx⟩
    | succ k => exact ih hk

theorem framesOnly (h : p.Writes fs) : p.FramesOnly := by
  refine ⟨h.marks_eq_nil 0, ?_⟩
  induction h with
  | nil => rfl
  | cons hx _ ih =>
    obtain ⟨a, rfl, -, -⟩ := hx.exists_act
    exact ih

/-! An expansion `p ++ q` that starts with such a row. -/

theorem pos_append_left (h : p.Writes fs) (q : Prog) {k : Nat} (hk : k < fs.length) :
    Prog.pos (p ++ q) k = p.pos k := by
  rw [Prog.pos_append, if_pos (h.size_eq ▸ hk)]

theorem pos_append_right (h : p.Writes fs) (q : Prog) (j : Nat) :
    Prog.pos (p ++ q) (fs.length + j) = q.pos j := by
  simp [Prog.pos_append, h.size_eq]

theorem marks_append_eq_nil (h : p.Writes fs) {q : Prog} (hq : ∀ j, q.marks j = []) (k : Nat) :
    Prog.marks (p ++ q) k = [] := by
  simp [Prog.marks_append, h.marks_eq_nil, hq]

end Prog.Writes

/-- A position that reads and keeps no byte leaves the state as it is. -/
theorem store_write {a : Act} (h : a.reads = false) (b : Byte) (s : State) : store { act := a } b s = s := by
  simp [store, h]

end Sys2Proof.Machine

namespace Sys2Proof.Claim

open Sys2Proof Machine Operands

theorem wr8_writes (a v : Byte) : Prog.Writes (wr8 a v) (wr8Frames a v) := .cons (.cmdw _) (.cons (.datw _) .nil)

theorem wr16_writes (a : Byte) (v : Half) : Prog.Writes (wr16 a v) (wr16Frames a v) :=
  (wr8_writes a (lo8 v)).append (wr8_writes (pairHigh a) (hi8 v))

theorem wr32_writes (a : Byte) (v : Word) : Prog.Writes (wr32 a v) (wr32Frames a v) :=
  .cons (.cmdw _) (.cons (.datwb _) .nil)

theorem cfgStep_writes (l : List RegWrite) : Prog.Writes (cfgStep l) (listFrames l) := by
  induction l with
  | nil => exact .nil
  | cons w l ih =>
    cases w with
    | w8 a v => exact (wr8_writes a v).append ih
    | w16 a v => exact (wr16_writes a v).append ih
    | w32 a v => exact (wr32_writes a v).append ih

/-! ### The step of an operation that is such a row -/

section

variable {i : Instr} {s : State} {p : Prog} {fs : List (List Byte)}

/-- An operation whose expansion is a row of write frames sends them in order and completes with `Ok` (R82, R84). -/
theorem sends_of_writes (hrun : Running i s) (hexp : expansion s.cfg i = p) (hp : p.Writes fs)
    (hres : resultOf i = resultOk) : Sends i s fs id := by
  intro tx htx
  obtain ⟨a, hpos, hreads, hsends⟩ := hp.exists_pos htx
  obtain ⟨hlt, -⟩ := List.getElem?_eq_some_iff.mp htx
  by_cases hlast : s.seq + 1 = fs.length
  · have hend : p.pos (s.seq + 1) = none := by rw [Prog.pos_eq_none, hp.size_eq, hlast]
    have hstep := frameStep_last { act := a } hrun hexp hp.framesOnly rfl hpos hend
    simpa only [hsends, store_write hreads, hp.marks_eq_nil, applyMarks_nil, hres, resultOk, if_pos hlast, id_eq]
      using hstep
  · have hnext : (p.pos (s.seq + 1)).isSome = true := by
      rw [Prog.pos_isSome, hp.size_eq]
      omega
    have hstep := frameStep_goOn { act := a } hrun hexp hp.framesOnly rfl hpos hnext (hp.marks_eq_nil _)
    simpa only [hsends, store_write hreads, if_neg hlast] using hstep

/-- An operation with an empty expansion completes in its first step, with no frame (log entry 4). -/
theorem exec_empty (hrun : Running i s) (hexp : expansion s.cfg i = []) (hres : resultOf i = resultOk)
    (hseq : s.seq = 0) : exec i s = .next { s with opv := false, result := .ok } := by
  obtain ⟨-, -, -, -, hcheck⟩ := hrun
  rw [exec_eq_perform, hexp, perform_end _ hcheck (Prog.due_start hseq) (Prog.pos_nil _), startOp_plain s rfl, hres]
  rfl

/-- An operation that is a configuration step without ghost effect (R142). -/
theorem configStep_of_cfgStep {l : List RegWrite} (hrun : Running i s) (hexp : expansion s.cfg i = cfgStep l)
    (hres : resultOf i = resultOk) : ConfigStep i s l id := by
  refine ⟨sends_of_writes hrun hexp (cfgStep_writes l) hres, ?_⟩
  rintro rfl hseq
  exact exec_empty hrun hexp hres hseq

end

/-- Settles O22: each of the eight operations expands to the configuration step of its list. -/
theorem configurationStepsSendTheirLists : Obligations.ConfigurationStepsSendTheirLists := by
  intro s
  refine ⟨⟨⟨rfl, fun _ => rfl⟩, fun hrun => ?_⟩, ⟨⟨rfl, fun _ => rfl⟩, fun hrun => ?_⟩,
    ⟨⟨rfl, fun _ => rfl⟩, fun hrun => ?_⟩, ⟨⟨rfl, fun _ => rfl⟩, fun hrun => ?_⟩,
    ⟨⟨rfl, fun _ => rfl⟩, fun hrun => ?_⟩, ⟨⟨rfl, fun _ => rfl⟩, fun hrun => ?_⟩,
    ⟨⟨rfl, fun _ => rfl⟩, fun hrun => ?_⟩, ⟨⟨rfl, fun _ => rfl⟩, fun hrun => ?_⟩⟩
  all_goals exact configStep_of_cfgStep hrun rfl rfl

/-! ### `SET_DISPLAY_SIZE` -/

/-- A width the check `size_width` passes loses nothing in the width register (R144). -/
theorem widthByte_exact {w : Half} (h : WellFormed.width w = true) :
    (BitVec.ofNat 8 (w.toNat / 8 - 1)).toNat = w.toNat / 8 - 1 ∧ 8 * (w.toNat / 8 - 1) + 8 = w.toNat := by
  simp only [WellFormed.width, Bool.and_eq_true, beq_iff_eq, decide_eq_true_eq] at h
  rw [BitVec.toNat_ofNat]
  omega

/-- A height the check `size_height` passes loses nothing in the height pair (R144). -/
theorem heightValue_exact {h : Half} (hh : WellFormed.height h = true) :
    (BitVec.ofNat 16 (h.toNat - 1)).toNat + 1 = h.toNat := by
  simp only [WellFormed.height, decide_eq_true_eq] at hh
  have := h.isLt
  rw [BitVec.toNat_ofNat]
  omega

/-- A running `SET_DISPLAY_SIZE` has passed the checks of its width and its height (R85). -/
theorem size_of_running {s : State} {w h : Half} (hrun : Running (.setDisplaySize w h) s) :
    WellFormed.width w = true ∧ WellFormed.height h = true := by
  obtain ⟨-, -, -, -, hcheck⟩ := hrun
  simp only [WellFormed.check, WellFormed.broken, List.head?_eq_none_iff, List.append_eq_nil_iff,
    WellFormed.need, ite_eq_left_iff, List.cons_ne_nil, imp_false, Bool.not_eq_true, Bool.not_eq_false] at hcheck
  exact hcheck.1

/-- A width that is no multiple of 8 breaks the check that stands first (R144, log entry 11). -/
theorem check_width_not_multiple (c : Cfg) {w : Half} (h : Half) (hw : w.toNat % 8 ≠ 0) :
    WellFormed.check c (.setDisplaySize w h) = some .sizeWidth := by
  simp [WellFormed.check, WellFormed.broken, WellFormed.need, WellFormed.width, hw]

/-- Settles O24: a byte write and a paired write, whose values fit because the operation is well formed. -/
theorem displaySizeIsEncodedExactly : Obligations.DisplaySizeIsEncodedExactly := by
  refine ⟨fun s w h => ⟨⟨rfl, fun rest => ?_⟩, fun hrun => ?_, fun hw => ?_⟩, fun c => rfl⟩
  · change DecodeResult.done (.setDisplaySize (half (hi8 w) (lo8 w)) (half (hi8 h) (lo8 h))) rest = _
    rw [half_hi8_lo8, half_hi8_lo8]
  · obtain ⟨hwidth, hheight⟩ := size_of_running hrun
    obtain ⟨hfits, hexact⟩ := widthByte_exact hwidth
    refine ⟨?_, hfits, hexact, heightValue_exact hheight⟩
    exact sends_of_writes hrun rfl ((wr8_writes _ _).append (wr16_writes _ _)) rfl
  · rw [exec_eq_perform]
    exact perform_illFormed _ _ (check_width_not_multiple s.cfg h hw)

/-! ### The cursor setters -/

/-- Settles O32: both setters expand to the paired write of their register. -/
theorem cursorSettersArePairedWrites : Obligations.CursorSettersArePairedWrites := by
  intro s v
  refine ⟨⟨⟨rfl, fun rest => ?_⟩, fun hrun => ?_⟩, ⟨⟨rfl, fun rest => ?_⟩, fun hrun => ?_⟩⟩
  · change DecodeResult.done (.setTextCursorX (half (hi8 v) (lo8 v))) rest = _
    rw [half_hi8_lo8]
  · exact sends_of_writes hrun rfl (wr16_writes _ _) rfl
  · change DecodeResult.done (.setTextCursorY (half (hi8 v) (lo8 v))) rest = _
    rw [half_hi8_lo8]
  · exact sends_of_writes hrun rfl (wr16_writes _ _) rfl

end Sys2Proof.Claim
end

section
/-! PROOFS. `WRITE_TEXT`: its host word, the 16-byte pieces of a text, and the steps of a chunk's four positions
(R159). -/

namespace Sys2Proof

open Operands

/-- A length of at most 65535 as the two bytes of the host word (R81). -/
theorem ofNat_eq_half {n : Nat} (h : n ≤ 65535) :
    BitVec.ofNat 16 n = half (BitVec.ofNat 8 (n / 256)) (BitVec.ofNat 8 (n % 256)) := by
  apply BitVec.eq_of_toNat_eq
  rw [half_toNat, BitVec.toNat_ofNat, BitVec.toNat_ofNat, BitVec.toNat_ofNat]
  omega

/-- Chunk `k` of a text is its piece from byte `16 k` on, where the text has a byte there (R159). -/
theorem chunksUpTo_getElem? {n : Nat} {txt : List Byte} (hn : txt.length ≤ n) (k : Nat) :
    (chunksUpTo n txt)[k]? = if 16 * k < txt.length then some ((txt.drop (16 * k)).take 16) else none := by
  induction n generalizing txt k with
  | zero =>
    obtain rfl : txt = [] := List.length_eq_zero_iff.mp (Nat.le_zero.mp hn)
    simp [chunksUpTo]
  | succ n ih =>
    cases txt with
    | nil => simp [chunksUpTo]
    | cons b bs =>
      cases k with
      | zero => simp [chunksUpTo, textChunkMax]
      | succ k =>
        have hrest : ((b :: bs).drop 16).length ≤ n := by
          rw [List.length_drop]
          omega
        have hiff : 16 * k < ((b :: bs).drop 16).length ↔ 16 * (k + 1) < (b :: bs).length := by
          rw [List.length_drop]
          omega
        rw [chunksUpTo, List.getElem?_cons_succ, textChunkMax, ih hrest k, List.drop_drop, Nat.add_comm 16]
        simp only [hiff, Nat.mul_succ]

theorem chunks_getElem? (txt : List Byte) (k : Nat) :
    (chunks txt)[k]? = if 16 * k < txt.length then some ((txt.drop (16 * k)).take 16) else none :=
  chunksUpTo_getElem? le_rfl k

end Sys2Proof

namespace Sys2Proof.Machine

open Sys2Proof Operands

theorem textChunk_marks (c : Cfg) (ds : List Byte) (k : Nat) : (textChunk c ds).marks k = [] := by
  obtain _ | _ | _ | _ | k := k <;> simp [textChunk, polls, plain]

/-- The four positions of each chunk follow those of the chunk before. -/
theorem pos_flatMap_textChunk (c : Cfg) (l : List (List Byte)) (k : Nat) {j : Nat} (hj : j < 4) :
    Prog.pos (l.flatMap (textChunk c)) (4 * k + j) = l[k]?.bind fun ds => (textChunk c ds).pos j := by
  induction l generalizing k with
  | nil => simp
  | cons ds l ih =>
    have hsize : Prog.size (textChunk c ds) = 4 := rfl
    rw [List.flatMap_cons, Prog.pos_append, hsize]
    cases k with
    | zero => simp [hj]
    | succ k =>
      have hsub : 4 * (k + 1) + j - 4 = 4 * k + j := by omega
      rw [if_neg (by omega), hsub, ih, List.getElem?_cons_succ]

theorem marks_flatMap_textChunk (c : Cfg) (l : List (List Byte)) (k : Nat) :
    Prog.marks (l.flatMap (textChunk c)) k = [] := by
  induction l generalizing k with
  | nil => exact Prog.marks_nil k
  | cons ds l ih => simp [List.flatMap_cons, Prog.marks_append, textChunk_marks, ih]

theorem progWriteText_marks (c : Cfg) (txt : List Byte) (k : Nat) : (progWriteText c txt).marks k = [] :=
  marks_flatMap_textChunk c _ k

theorem progWriteText_framesOnly (c : Cfg) (txt : List Byte) : (progWriteText c txt).FramesOnly where
  starts := progWriteText_marks c txt 0
  undelayed := by
    rw [progWriteText, List.any_flatMap, List.any_eq_false]
    intro ds _
    simp [textChunk, polls, plain, Item.delays]

/-- Position `j` of the chunk that starts at byte `16 k`. -/
theorem progWriteText_pos (c : Cfg) {txt : List Byte} {k : Nat} (hk : 16 * k < txt.length) {j : Nat} (hj : j < 4) :
    (progWriteText c txt).pos (4 * k + j) = (textChunk c ((txt.drop (16 * k)).take 16)).pos j := by
  rw [progWriteText, pos_flatMap_textChunk c _ k hj, chunks_getElem?, if_pos hk, Option.bind_some]

/-- Behind the last chunk there is no position. -/
theorem progWriteText_pos_end (c : Cfg) {txt : List Byte} {k : Nat} (hk : txt.length ≤ 16 * k) :
    (progWriteText c txt).pos (4 * k) = none := by
  have hpos := pos_flatMap_textChunk c (chunks txt) k (j := 0) (by decide)
  rwa [chunks_getElem?, if_neg (by omega), Option.bind_none] at hpos

end Sys2Proof.Machine

namespace Sys2Proof.Claim

open Sys2Proof Machine Operands

/-- The host word of `WRITE_TEXT`: the length, most significant byte first, then the text (R81). -/
theorem writeText_hostWord {txt : List Byte} (h : txt.length ≤ 65535) :
    HostWord (0x33#8 :: BitVec.ofNat 8 (txt.length / 256) :: BitVec.ofNat 8 (txt.length % 256) :: txt)
      (.writeText txt) := by
  have hhalf := ofNat_eq_half h
  refine ⟨?_, fun rest => ?_⟩
  · rw [encode, hhalf, be16, hi8_half, lo8_half]
    rfl
  · have hlen : (BitVec.ofNat 16 txt.length).toNat = txt.length := by
      rw [BitVec.toNat_ofNat]
      omega
    change Decode.withBytes (half _ _).toNat (txt ++ rest) (fun ds r => .done (.writeText ds) r) = _
    rw [← hhalf, hlen, Decode.withBytes, splitBytes_append]

section

variable {s : State} {txt : List Byte} {k j : Nat}

/-- A position of a chunk that goes on to the next position of the same chunk. -/
theorem frameStep_textChunk_goOn (m : Micro) (hrun : Running (.writeText txt) s) (hk : 16 * k < txt.length)
    (hj : j < 3) (hseq : s.seq = 4 * k + j)
    (hpos : (textChunk s.cfg ((txt.drop (16 * k)).take 16)).pos j = some m)
    (hmove : m.ctl.next (store m (s.rxByte 1) s).rx = .fwd 1 := by rfl) :
    FrameStep (.writeText txt) s (m.act.tx s) fun u => goOn (4 * k + j + 1) (store m (s.rxByte 1) u) := by
  have hsize : Prog.size (textChunk s.cfg ((txt.drop (16 * k)).take 16)) = 4 := rfl
  refine frameStep_goOn (p := progWriteText s.cfg txt) m hrun rfl (progWriteText_framesOnly _ _) hseq ?_ ?_
    (progWriteText_marks _ _ _) hmove
  · exact (progWriteText_pos s.cfg hk (by omega)).trans hpos
  · rw [Nat.add_assoc, progWriteText_pos s.cfg hk (by omega), Prog.pos_isSome, hsize]
    omega

/-- A position of a chunk whose poll fails: it polls again. -/
theorem frameStep_textChunk_again (m : Micro) (hrun : Running (.writeText txt) s) (hk : 16 * k < txt.length)
    (hj : j < 4) (hseq : s.seq = 4 * k + j)
    (hpos : (textChunk s.cfg ((txt.drop (16 * k)).take 16)).pos j = some m)
    (hmove : m.ctl.next (store m (s.rxByte 1) s).rx = .back 0) :
    FrameStep (.writeText txt) s (m.act.tx s) fun u => goOn (4 * k + j) (store m (s.rxByte 1) u) :=
  frameStep_goBack m 0 hrun rfl (progWriteText_framesOnly _ _) hseq hmove ((progWriteText_pos s.cfg hk hj).trans hpos)

/-- The last position of a chunk, whose poll succeeds: on to the next chunk, or after the last one completion. -/
theorem frameStep_textChunk_last (m : Micro) (hrun : Running (.writeText txt) s) (hk : 16 * k < txt.length)
    (hseq : s.seq = 4 * k + 3)
    (hpos : (textChunk s.cfg ((txt.drop (16 * k)).take 16)).pos 3 = some m)
    (hmove : m.ctl.next (store m (s.rxByte 1) s).rx = .fwd 1) :
    FrameStep (.writeText txt) s (m.act.tx s) fun u =>
      if txt.length ≤ 16 * (k + 1) then done (4 * k + 4) .ok (store m (s.rxByte 1) u)
      else goOn (4 * k + 4) (store m (s.rxByte 1) u) := by
  have hframes := progWriteText_framesOnly s.cfg txt
  have hres : resultOf (.writeText txt) = resultOk := rfl
  have hpos' : (progWriteText s.cfg txt).pos (4 * k + 3) = some m :=
    (progWriteText_pos s.cfg hk (by decide)).trans hpos
  by_cases hlast : txt.length ≤ 16 * (k + 1)
  · have hstep := frameStep_last (p := progWriteText s.cfg txt) m hrun rfl hframes hseq hpos'
      (progWriteText_pos_end s.cfg hlast) hmove
    simpa only [if_pos hlast, progWriteText_marks, applyMarks_nil, hres, resultOk] using hstep
  · have hnext : ((progWriteText s.cfg txt).pos (4 * (k + 1))).isSome = true := by
      rw [← Nat.add_zero (4 * (k + 1)), progWriteText_pos s.cfg (by omega) (by decide)]
      rfl
    simpa only [if_neg hlast] using frameStep_goOn m hrun rfl hframes hseq hpos' hnext
      (progWriteText_marks _ _ _) hmove

end

/-- Settles O30: the four positions of the chunk at byte `16 k`, its two polls hit or missed. -/
theorem textIsSentInChunksBetweenPolls : Obligations.TextIsSentInChunksBetweenPolls := by
  intro s txt
  refine ⟨writeText_hostWord, fun hrun => ⟨?_, fun k hk => ⟨fun hseq hbit => ?_, fun hseq hbit => ?_, fun hseq => ?_,
    fun hseq => ?_, fun hseq hbit => ?_, fun hseq hbit => ?_⟩⟩⟩
  · rintro rfl hseq
    exact exec_empty hrun rfl rfl hseq
  · exact frameStep_textChunk_goOn (j := 0) _ hrun hk (by decide) hseq rfl (next_poll_of_bitIs _ _ hbit)
  · exact frameStep_textChunk_again (j := 0) _ hrun hk (by decide) hseq rfl (next_poll_of_not_bitIs _ _ hbit)
  · exact frameStep_textChunk_goOn (j := 1) _ hrun hk (by decide) hseq rfl
  · exact frameStep_textChunk_goOn (j := 2) _ hrun hk (by decide) hseq rfl
  · exact frameStep_textChunk_last _ hrun hk hseq rfl (next_poll_of_bitIs _ _ hbit)
  · exact frameStep_textChunk_again (j := 3) _ hrun hk (by decide) hseq rfl (next_poll_of_not_bitIs _ _ hbit)

end Sys2Proof.Claim
end

section
/-! PROOFS. `INIT_MEM`: the positions of its expansion, its first step, its poll with a delay between attempts (R141,
R222). -/

namespace Sys2Proof.Machine

open Sys2Proof

theorem pollrDelayed_marks (ph a m : Byte) (t : Bool) (ms k : Nat) : (pollrDelayed ph a m t ms).marks k = [] := by
  obtain _ | _ | k := k <;> simp [pollrDelayed, plain]

end Sys2Proof.Machine

namespace Sys2Proof.Claim

open Sys2Proof Machine

/-! ### The steps of an operation that may delay -/

section

variable {i : Instr} {s : State} {p : Prog}

/-- A step while a delay is due, in the words of the statements (R222). -/
theorem delayStep_of_due {ms n start : Nat} (hrun : Running i s) (hexp : expansion s.cfg i = p)
    (hdue : p.due s = some (ms, n)) (hseq : s.seq = start + n) : DelayStep i s ms start := by
  obtain ⟨-, -, -, -, hcheck⟩ := hrun
  obtain rfl : start = s.seq - n := by omega
  rw [DelayStep, exec_eq_perform, hexp, perform_delay _ hcheck hdue]
  refine ⟨fun htimer => ?_, fun d htimer => ⟨fun hin => ?_, fun r hin => ?_, fun r hin => ?_⟩⟩
  · simp [delayStep, htimer, requestDelay, State.emit]
  · simp [delayStep, htimer, timerStep, hin, delayEnded]
  · simp [delayStep, htimer, timerStep, hin, delayEnded]
  · simp [delayStep, htimer, timerStep, hin]

/-- The step of a frame position where no delay is due and the ghost updates of the start have happened. -/
theorem frameStep_of_started (m : Micro) {ok : State → State} (hrun : Running i s)
    (hexp : expansion s.cfg i = p) (hdue : p.due s = none) (hstart : startOp p s = s) (hpos : p.pos s.seq = some m)
    (hok : move p (resultOf i) (m.ctl.next (store m (s.rxByte 1) s).rx)
      (store m (s.rxByte 1) (afterFrame (m.act.tx s) s)) = ok (afterFrame (m.act.tx s) s)) :
    FrameStep i s (m.act.tx s) ok := by
  obtain ⟨-, -, -, hcs, hcheck⟩ := hrun
  have hexec : exec i s = .next (runFrame p (resultOf i) m s) := by
    rw [exec_eq_perform, hexp, perform_frame _ hcheck hdue hpos hcs, hstart]
  refine ⟨fun herr => ?_, fun e herr => ?_⟩
  · rw [hexec, runFrame, frame_ok _ _ herr, frameSent_eq_afterFrame hcs, follow_eq_move_next, ← hok]
    rfl
  · rw [hexec, runFrame, frame_err _ _ herr, frameFailed_eq_afterFault]

end

/-! ### The expansion -/

section

variable (c : Cfg)

/-- The read of an SDRAM attempt: where its test fails a delay is due (R141). -/
def sdramRead : Micro where
  act := .datr c.wire.ph
  ctl := .poll c.sdram.doneMask c.sdram.doneLevel (.fwd 1) (.wait c.sdram.pollDelayMs 2)

/-- The SDRAM list and the start write. -/
def sdramWrites : Prog := cfgStep c.sdram.writes ++ wr8 c.regs.sdramCtrl c.sdram.startVal

theorem sdramWrites_writes : (sdramWrites c).Writes (sdramFrames c) := (cfgStep_writes _).append (wr8_writes _ _)

theorem progInitMem_eq : progInitMem c = .mark .sdramInitializing :: (sdramWrites c ++
    pollrDelayed c.wire.ph c.regs.sdramCtrl c.sdram.doneMask c.sdram.doneLevel c.sdram.pollDelayMs) := rfl

theorem sdramFrames_length_pos : 0 < (sdramFrames c).length := by simp [sdramFrames, wr8Frames]

/-- Each write of the SDRAM list and the start write is a position of its own. -/
theorem progInitMem_pos_write {k : Nat} {tx : List Byte} (hk : (sdramFrames c)[k]? = some tx) :
    ∃ a : Act, (progInitMem c).pos k = some { act := a } ∧ a.reads = false ∧ ∀ s, a.tx s = tx := by
  obtain ⟨hlt, -⟩ := List.getElem?_eq_some_iff.mp hk
  rw [progInitMem_eq, Prog.pos_mark, (sdramWrites_writes c).pos_append_left _ hlt]
  exact (sdramWrites_writes c).exists_pos hk

/-- The positions of the poll, behind the writes. -/
theorem progInitMem_pos_poll (j : Nat) :
    (progInitMem c).pos ((sdramFrames c).length + j) =
      (pollrDelayed c.wire.ph c.regs.sdramCtrl c.sdram.doneMask c.sdram.doneLevel c.sdram.pollDelayMs).pos j := by
  rw [progInitMem_eq, Prog.pos_mark, (sdramWrites_writes c).pos_append_right]

theorem progInitMem_pos_address :
    (progInitMem c).pos (sdramFrames c).length = some { act := .cmdw c.regs.sdramCtrl } := progInitMem_pos_poll c 0

theorem progInitMem_pos_read : (progInitMem c).pos ((sdramFrames c).length + 1) = some (sdramRead c) :=
  progInitMem_pos_poll c 1

theorem progInitMem_pos_end : (progInitMem c).pos ((sdramFrames c).length + 2) = none :=
  progInitMem_pos_poll c 2

/-- The one ghost update stands at the start. -/
theorem progInitMem_marks_zero : (progInitMem c).marks 0 = [.sdramInitializing] := by
  rw [progInitMem_eq, Prog.marks_mark_zero, (sdramWrites_writes c).marks_append_eq_nil (pollrDelayed_marks _ _ _ _ _)]

theorem progInitMem_marks_succ (k : Nat) : (progInitMem c).marks (k + 1) = [] := by
  rw [progInitMem_eq, Prog.marks_mark_succ, (sdramWrites_writes c).marks_append_eq_nil (pollrDelayed_marks _ _ _ _ _)]

end

section

variable {s : State}

/-- Up to the first attempt's read no delay is due. -/
theorem progInitMem_due_eq_none (h : s.seq ≤ (sdramFrames s.cfg).length + 1) : (progInitMem s.cfg).due s = none := by
  cases hd : (progInitMem s.cfg).due s with
  | none => rfl
  | some d =>
    obtain ⟨k, m, mask, t, hit, hseq, hpos, hctl, -⟩ := Prog.due_eq_some.mp hd
    have hgo : m.ctl = .go (.fwd 1) := by
      rcases Nat.lt_or_ge k (sdramFrames s.cfg).length with hk | hk
      · obtain ⟨a, ha, -, -⟩ := progInitMem_pos_write s.cfg (List.getElem?_eq_getElem hk)
        rw [hpos] at ha
        exact congrArg Micro.ctl (Option.some.inj ha)
      · obtain rfl : k = (sdramFrames s.cfg).length := by omega
        rw [progInitMem_pos_address] at hpos
        exact congrArg Micro.ctl (Option.some.inj hpos.symm)
    simp [hgo] at hctl

/-- Behind an attempt that failed a delay is due, and after it the loop starts again. -/
theorem progInitMem_due_eq_some (hseq : s.seq = (sdramFrames s.cfg).length + 2)
    (hbit : ¬ bitIs s.rx s.cfg.sdram.doneMask s.cfg.sdram.doneLevel) :
    (progInitMem s.cfg).due s = some (s.cfg.sdram.pollDelayMs, 2) := by
  refine Prog.due_eq_some.mpr ⟨_, _, _, _, _, hseq, progInitMem_pos_read s.cfg, rfl, ?_⟩
  simpa using mt (pollHit_iff_bitIs _ _ _).mp hbit

/-! ### The steps -/

/-- A position of `INIT_MEM` that is not its last: its move goes on to the next one. -/
theorem frameStep_initMem_goOn (m : Micro) (hrun : Running .initMem s) (hstart : startOp (progInitMem s.cfg) s = s)
    (hpos : (progInitMem s.cfg).pos s.seq = some m) (hseq : s.seq ≤ (sdramFrames s.cfg).length)
    (hmove : m.ctl = .go (.fwd 1)) :
    FrameStep .initMem s (m.act.tx s) fun u => goOn (s.seq + 1) (store m (s.rxByte 1) u) := by
  have hnext : ((progInitMem s.cfg).pos (s.seq + 1)).isSome = true := by
    have hread := congrArg Option.isSome (progInitMem_pos_read s.cfg)
    rw [Option.isSome_some, Prog.pos_isSome] at hread
    rw [Prog.pos_isSome]
    omega
  refine frameStep_of_started m hrun rfl (progInitMem_due_eq_none (by omega)) hstart hpos ?_
  rw [hmove]
  exact arrive_eq_goOn _ _ hnext (progInitMem_marks_succ _ _)

/-- The ghost update of the start leaves a state in which it has happened. -/
theorem startOp_initMem_eq_self (h : s.lifecycle = .sdramInitializing) : startOp (progInitMem s.cfg) s = s := by
  rw [startOp, progInitMem_marks_zero]
  split
  · cases s
    cases h
    rfl
  · rfl

theorem startOp_initMem_later (h : (sdramFrames s.cfg).length ≤ s.seq) : startOp (progInitMem s.cfg) s = s := by
  have := sdramFrames_length_pos s.cfg
  exact startOp_later _ (by omega)

/-- The read of an SDRAM attempt, and the move its test decides. -/
theorem frameStep_sdramRead {mv : Move} {ok : State → State} (hrun : Running .initMem s)
    (hseq : s.seq = (sdramFrames s.cfg).length + 1)
    (hmove : (sdramRead s.cfg).ctl.next (store (sdramRead s.cfg) (s.rxByte 1) s).rx = mv)
    (hok : move (progInitMem s.cfg) (resultOf .initMem) mv
      (store (sdramRead s.cfg) (s.rxByte 1) (afterFrame [0xC0#8, s.cfg.wire.ph] s)) =
        ok (afterFrame [0xC0#8, s.cfg.wire.ph] s)) :
    FrameStep .initMem s [0xC0#8, s.cfg.wire.ph] ok := by
  have hpos := progInitMem_pos_read s.cfg
  rw [← hseq] at hpos
  refine frameStep_of_started (sdramRead s.cfg) hrun rfl (progInitMem_due_eq_none hseq.le)
    (startOp_initMem_later (by omega)) hpos ?_
  rw [hmove]
  exact hok

/-- At its start `INIT_MEM` steps as if `lifecycle` were `SdramInitializing` already (R141, log entry 17). -/
theorem exec_initMem_start (h : s.seq = 0 ∨ s.lifecycle = .sdramInitializing) :
    exec .initMem s = exec .initMem { s with lifecycle := .sdramInitializing } := by
  obtain hseq | hlife := h
  · have hstart : startOp (progInitMem s.cfg) s =
        startOp (progInitMem s.cfg) { s with lifecycle := .sdramInitializing } := by
      simp [startOp, hseq, progInitMem_marks_zero, applyMark]
    rw [exec_eq_perform, exec_eq_perform]
    change perform .initMem (progInitMem s.cfg) resultOk s =
      perform .initMem (progInitMem s.cfg) resultOk { s with lifecycle := .sdramInitializing }
    simp only [perform, Prog.due_start hseq, hstart]
    rw [Prog.due_start (s := { s with lifecycle := .sdramInitializing }) hseq]
  · cases s
    cases hlife
    rfl

end

/-- Settles O25: the writes and the poll's address go on; the poll's read completes or makes a delay due; the delay
leads back to the poll's address. -/
theorem sdramInitialisationPollsWithDelays : Obligations.SdramInitialisationPollsWithDelays := by
  intro s
  refine ⟨⟨rfl, fun _ => rfl⟩, ?_⟩
  rintro hrun hlife n rfl
  refine ⟨fun tx htx => ?_, fun hseq => ?_, fun hseq hbit => ?_, fun hseq hbit => ?_, fun hseq hbit => ?_⟩
  · obtain ⟨a, hpos, hreads, hsends⟩ := progInitMem_pos_write s.cfg htx
    obtain ⟨hlt, -⟩ := List.getElem?_eq_some_iff.mp htx
    have hstep := frameStep_initMem_goOn (s := { s with lifecycle := .sdramInitializing }) { act := a } hrun
      (startOp_initMem_eq_self rfl) hpos hlt.le rfl
    simp only [hsends, store_write hreads] at hstep
    rw [exec_initMem_start hlife]
    exact hstep
  · have hpos := progInitMem_pos_address s.cfg
    rw [← hseq] at hpos ⊢
    exact frameStep_initMem_goOn _ hrun (startOp_initMem_later hseq.ge) hpos hseq.le rfl
  · refine frameStep_sdramRead hrun hseq (next_poll_of_bitIs _ _ hbit) ?_
    rw [move, store_seq, afterFrame_seq, hseq, arrive_eq_done .initMem _ (progInitMem_pos_end s.cfg),
      progInitMem_marks_succ]
    rfl
  · refine frameStep_sdramRead hrun hseq (next_poll_of_not_bitIs _ _ hbit) ?_
    rw [move, store_seq, afterFrame_seq, hseq]
    rfl
  · exact delayStep_of_due hrun rfl (progInitMem_due_eq_some hseq hbit) hseq

end Sys2Proof.Claim
end

section
/-! PROOFS. The BTE operations: rows of write frames that end with a ghost update, the read-modify-write of the start,
the poll of the busy bit, and `FILL`, which joins them (R179 to R191). -/

namespace Sys2Proof

open Operands

/-- A 16-bit operand is read back from its two bytes (R81). -/
theorem with16_be16 (v : Half) (rest : List Byte) (k : Half → List Byte → DecodeResult) :
    Decode.with16 (be16 v ++ rest) k = k v rest := by
  change k (half (hi8 v) (lo8 v)) rest = k v rest
  rw [half_hi8_lo8]

/-- A 32-bit operand is read back from its four bytes (R81). -/
theorem with32_be32 (v : Word) (rest : List Byte) (k : Word → List Byte → DecodeResult) :
    Decode.with32 (be32 v ++ rest) k = k v rest := congrArg (k · rest) (word_be32 v)

/-- A check that is not broken holds (R85). -/
theorem holds_of_need {ok : Bool} {c : Check} (h : (WellFormed.need ok c).head? = none) : ok = true := by
  cases ok
  · cases h
  · rfl

end Sys2Proof

namespace Sys2Proof.Machine

open Sys2Proof

/-! ### Positions and ghost updates -/

/-- A line that `seq` counts. -/
def Item.isPosition : Item → Bool
  | .micro _ => true
  | .mark _ => false

/-- The ghost updates of an expansion do not move its positions. -/
theorem Prog.pos_filter_isPosition (p : Prog) (k : Nat) : Prog.pos (p.filter Item.isPosition) k = p.pos k := by
  induction p generalizing k with
  | nil => rfl
  | cons x p ih =>
    cases x with
    | mark g => exact (ih k).trans (Prog.pos_mark g p k).symm
    | micro m =>
      cases k with
      | zero => rfl
      | succ k => exact ih k

theorem Prog.pos_append_mark (p : Prog) (g : Mark) (k : Nat) : Prog.pos (p ++ [.mark g]) k = p.pos k := by
  rw [← Prog.pos_filter_isPosition, List.filter_append, List.filter_singleton]
  simp only [Item.isPosition, cond_false, List.append_nil]
  exact Prog.pos_filter_isPosition p k

/-- No ghost update stands behind the end of an expansion. -/
theorem Prog.marks_eq_nil_of_size_lt {p : Prog} {k : Nat} (h : p.size < k) : p.marks k = [] := by
  induction p generalizing k with
  | nil => exact Prog.marks_nil k
  | cons x p ih =>
    obtain ⟨k, rfl⟩ := Nat.exists_eq_succ_of_ne_zero (Nat.ne_zero_of_lt h)
    cases x with
    | mark g => exact ih h
    | micro m => exact ih (Nat.lt_of_succ_lt_succ h)

/-- A ghost update behind positions that have none: it happens where they end. -/
theorem Prog.marks_append_mark {p : Prog} (hp : ∀ k, p.marks k = []) (g : Mark) (k : Nat) :
    Prog.marks (p ++ [.mark g]) k = if k = p.size then [g] else [] := by
  rw [Prog.marks_append, hp]
  rcases Nat.lt_trichotomy k p.size with hk | rfl | hk
  · rw [if_pos hk, if_neg hk.ne]
  · simp
  · obtain ⟨j, rfl⟩ := Nat.exists_eq_add_of_lt hk
    simp [Nat.add_assoc]

/-- Such positions and their ghost update behind an expansion: its own ghost updates stay where they are. -/
theorem Prog.marks_append_row {p : Prog} (hp : ∀ k, p.marks k = []) (hpos : 0 < p.size) (q : Prog) (g : Mark)
    (k : Nat) : Prog.marks (q ++ (p ++ [.mark g])) k = if k = q.size + p.size then [g] else q.marks k := by
  rw [Prog.marks_append, Prog.marks_append_mark hp, Prog.marks_append_mark hp, if_neg hpos.ne, List.append_nil]
  rcases Nat.lt_trichotomy k q.size with hk | rfl | hk
  · rw [if_pos hk, if_neg (by omega)]
  · simp [hpos.ne']
  · rw [if_neg (by omega), if_neg (by omega), Prog.marks_eq_nil_of_size_lt hk]
    exact if_congr (by omega) rfl rfl

theorem Prog.Writes.filter_isPosition {p : Prog} {fs : List (List Byte)} (h : p.Writes fs) :
    p.filter Item.isPosition = p := by
  induction h with
  | nil => rfl
  | cons hx _ ih =>
    obtain ⟨a, rfl, -, -⟩ := hx.exists_act
    exact congrArg (plain a :: ·) ih

theorem Prog.Writes.framesOnly_append_mark {p : Prog} {fs : List (List Byte)} (h : p.Writes fs) (g : Mark)
    (hpos : 0 < fs.length) : Prog.FramesOnly (p ++ [.mark g]) where
  starts := by rw [Prog.marks_append_mark h.marks_eq_nil, h.size_eq, if_neg hpos.ne]
  undelayed := by
    rw [List.any_append, h.framesOnly.undelayed]
    rfl

/-! ### Rows of write frames with ghost updates between them -/

/-- An expansion sends the `n` frames `fs`, and its ghost updates are those of `gs`, each before the position it is
listed with. -/
structure Prog.Rows (p : Prog) (n : Nat) (fs : List (List Byte)) (gs : List (Nat × Mark)) : Prop where
  writes : Prog.Writes (p.filter Item.isPosition) fs
  length : fs.length = n
  marks : ∀ k, p.marks k = (gs.lookup k).toList

namespace Prog.Rows

variable {p q : Prog} {n : Nat} {fs hs : List (List Byte)} {gs : List (Nat × Mark)}

/-- The position that sends a frame of the rows. -/
theorem exists_pos (h : p.Rows n fs gs) {k : Nat} {tx : List Byte} (hk : fs[k]? = some tx) :
    ∃ a : Act, p.pos k = some { act := a } ∧ a.reads = false ∧ ∀ s, a.tx s = tx := by
  rw [← Prog.pos_filter_isPosition]
  exact h.writes.exists_pos hk

theorem size_eq (h : p.Rows n fs gs) : p.size = n := by
  have hsize (k : Nat) : p.size ≤ k ↔ n ≤ k := by
    rw [← Prog.pos_eq_none, ← Prog.pos_filter_isPosition, Prog.pos_eq_none, h.writes.size_eq, h.length]
  exact Nat.le_antisymm ((hsize n).mpr le_rfl) ((hsize p.size).mp le_rfl)

theorem undelayed (h : p.Rows n fs gs) : p.any Item.delays = false := by
  have hmark (x : Item) : (x.isPosition && x.delays) = x.delays := by cases x <;> rfl
  simpa only [List.any_filter, hmark] using h.writes.framesOnly.undelayed

theorem nil : Prog.Rows [] 0 [] [] := ⟨.nil, rfl, Prog.marks_nil⟩

/-- One more row with a ghost update behind it. -/
theorem append_row (h : q.Rows n fs gs) (g : Mark) (hp : p.Writes hs)
    (hpos : 0 < hs.length := by exact Nat.succ_pos _) :
    Prog.Rows (q ++ (p ++ [.mark g])) (n + hs.length) (fs ++ hs) ((n + hs.length, g) :: gs) where
  writes := by
    have hfilter : List.filter Item.isPosition (q ++ (p ++ [.mark g])) = q.filter Item.isPosition ++ p := by
      simp [hp.filter_isPosition, Item.isPosition]
    rw [hfilter]
    exact h.writes.append hp
  length := by rw [List.length_append, h.length]
  marks k := by
    rw [Prog.marks_append_row hp.marks_eq_nil (hp.size_eq ▸ hpos), h.size_eq, hp.size_eq, List.lookup_cons, h.marks]
    by_cases hk : k = n + hs.length
    · simp [hk]
    · rw [if_neg hk, beq_false_of_ne hk]

end Prog.Rows

/-! ### The expansions with packed codes -/

variable {c : Cfg}

theorem progBteColorDepth_eq {s0 s1 d b : Byte} (h : c.bte.colr s0 s1 d = some b) :
    progBteColorDepth c s0 s1 d = wr8 c.regs.bteColr b ++ [.mark .bteField] := by
  rw [progBteColorDepth, h]
  rfl

theorem progBteSetup_eq {rop opc b : Byte} (h : c.bte.setup rop opc = some b) :
    progBteSetup c rop opc = wr8 c.regs.bteSetup b ++ [.mark .bteSetup] := by
  rw [progBteSetup, h]
  rfl

end Sys2Proof.Machine

namespace Sys2Proof.Claim

open Sys2Proof Machine Operands

/-! ### The ghost updates in the words of the statements -/

theorem applyMark_bteField (u : State) :
    applyMark u .bteField = { u with btePhase := fieldPhase u.btePhase } := by
  have hphase : u.btePhase.afterField = fieldPhase u.btePhase := by cases u.btePhase <;> rfl
  rw [applyMark, hphase]

theorem applyMark_bteSetup (u : State) :
    applyMark u .bteSetup = { u with btePhase := if u.btePhase = .started then .started else .setUp } := by
  have hphase : u.btePhase.afterSetup = if u.btePhase = .started then .started else .setUp := by
    cases u.btePhase <;> rfl
  rw [applyMark, hphase]

/-! ### The writers -/

section

variable {i : Instr} {s : State} {p : Prog} {fs : List (List Byte)}

/-- An operation whose expansion is a row of write frames with a ghost update behind it sends them in order, completes
with `Ok`, and the update happens at completion. -/
theorem sends_of_writes_mark (g : Mark) (hrun : Running i s) (hexp : expansion s.cfg i = p ++ [.mark g])
    (hp : p.Writes fs) (hres : resultOf i = resultOk) : Sends i s fs fun u => applyMark u g := by
  intro tx htx
  obtain ⟨a, hpos, hreads, hsends⟩ := hp.exists_pos htx
  obtain ⟨hlt, -⟩ := List.getElem?_eq_some_iff.mp htx
  have hframes := hp.framesOnly_append_mark g (by omega)
  rw [← Prog.pos_append_mark p g] at hpos
  by_cases hlast : s.seq + 1 = fs.length
  · have hend : Prog.pos (p ++ [.mark g]) (s.seq + 1) = none := by
      rw [Prog.pos_append_mark, Prog.pos_eq_none, hp.size_eq, hlast]
    have hstep := frameStep_last { act := a } hrun hexp hframes rfl hpos hend
    simpa only [hsends, store_write hreads, Prog.marks_append_mark hp.marks_eq_nil, hp.size_eq, applyMarks_cons,
      applyMarks_nil, hres, resultOk, if_pos hlast] using hstep
  · have hnext : (Prog.pos (p ++ [.mark g]) (s.seq + 1)).isSome = true := by
      rw [Prog.pos_append_mark, Prog.pos_isSome, hp.size_eq]
      omega
    have hmarks : Prog.marks (p ++ [.mark g]) (s.seq + 1) = [] := by
      rw [Prog.marks_append_mark hp.marks_eq_nil, hp.size_eq, if_neg hlast]
    have hstep := frameStep_goOn { act := a } hrun hexp hframes rfl hpos hnext hmarks
    simpa only [hsends, store_write hreads, if_neg hlast] using hstep

/-- A field writer: `bte_phase` is then `Configuring`, or stays `Started` (R180, R248). -/
theorem sends_of_fieldWriter (hrun : Running i s) (hexp : expansion s.cfg i = p ++ [.mark .bteField])
    (hp : p.Writes fs) (hres : resultOf i = resultOk) :
    Sends i s fs fun u => { u with btePhase := fieldPhase u.btePhase } := by
  simpa only [applyMark_bteField] using sends_of_writes_mark .bteField hrun hexp hp hres

end

/-- A running `BTE_COLOR_DEPTH` has codes in the domain of their packing function (R85). -/
theorem colr_of_running {s : State} {s0 s1 d : Byte} (hrun : Running (.bteColorDepth s0 s1 d) s) :
    ∃ b, s.cfg.bte.colr s0 s1 d = some b := by
  obtain ⟨-, -, -, -, hcheck⟩ := hrun
  exact Option.isSome_iff_exists.mp (holds_of_need hcheck)

/-- A running `BTE_SETUP` has codes in the domain of their packing function (R85). -/
theorem setup_of_running {s : State} {rop opc : Byte} (hrun : Running (.bteSetup rop opc) s) :
    ∃ b, s.cfg.bte.setup rop opc = some b := by
  obtain ⟨-, -, -, -, hcheck⟩ := hrun
  exact Option.isSome_iff_exists.mp (holds_of_need hcheck)

/-- Settles O34: each field writer's expansion is the row of its register writes with the field update behind it; a
running `BTE_COLOR_DEPTH` has a packed byte. -/
theorem bteFieldWritersSendTheirRegisters : Obligations.BteFieldWritersSendTheirRegisters := by
  rintro s _ rfl
  refine ⟨fun v => ⟨⟨rfl, fun rest => ?_⟩, fun hrun => ?_⟩, fun x y => ⟨⟨rfl, fun rest => ?_⟩, fun hrun => ?_⟩,
    fun s0 s1 d => ⟨⟨rfl, fun _ => rfl⟩, fun hrun => ?_⟩, fun v => ⟨⟨rfl, fun _ => rfl⟩, fun hrun => ?_⟩,
    fun v => ⟨⟨rfl, fun rest => ?_⟩, fun hrun => ?_⟩, fun v => ⟨⟨rfl, fun rest => ?_⟩, fun hrun => ?_⟩,
    fun v => ⟨⟨rfl, fun rest => ?_⟩, fun hrun => ?_⟩, fun r g b => ⟨⟨rfl, fun _ => rfl⟩, fun hrun => ?_⟩⟩
  · exact with32_be32 v rest fun v r => .done (.bteDestAddr v) r
  · exact sends_of_fieldWriter hrun rfl (wr32_writes _ _) rfl
  · exact (with16_be16 x (be16 y ++ rest) fun x r => Decode.with16 r fun y r => .done (.bteDestPos x y) r).trans
      (with16_be16 y rest _)
  · exact sends_of_fieldWriter hrun rfl ((wr16_writes _ _).append (wr16_writes _ _)) rfl
  · obtain ⟨b, hb⟩ := colr_of_running hrun
    exact ⟨b, hb, sends_of_fieldWriter hrun (progBteColorDepth_eq hb) (wr8_writes _ _) rfl⟩
  · exact sends_of_fieldWriter hrun rfl (wr8_writes _ _) rfl
  · exact with16_be16 v rest fun v r => .done (.bteDestWidth v) r
  · exact sends_of_fieldWriter hrun rfl (wr16_writes _ _) rfl
  · exact with16_be16 v rest fun v r => .done (.bteWidth v) r
  · exact sends_of_fieldWriter hrun rfl (wr16_writes _ _) rfl
  · exact with16_be16 v rest fun v r => .done (.bteHeight v) r
  · exact sends_of_fieldWriter hrun rfl (wr16_writes _ _) rfl
  · exact sends_of_fieldWriter hrun rfl (((wr8_writes _ _).append (wr8_writes _ _)).append (wr8_writes _ _)) rfl

/-- Settles O35: the expansion is the write of the packed byte with the setup update behind it. -/
theorem bteSetupWritesThePackedByte : Obligations.BteSetupWritesThePackedByte := by
  intro s rop opc
  refine ⟨⟨rfl, fun _ => rfl⟩, fun hrun => ?_⟩
  obtain ⟨b, hb⟩ := setup_of_running hrun
  refine ⟨b, hb, ?_⟩
  simpa only [applyMark_bteSetup] using
    sends_of_writes_mark .bteSetup hrun (progBteSetup_eq hb) (wr8_writes _ _) rfl

/-! ### The start and the poll -/

/-- Settles O36: the four positions of the read-modify-write, the last one's update starting the engine. -/
theorem bteStartPreservesOtherBits : Obligations.BteStartPreservesOtherBits := by
  intro s
  have hframes := rmwb_mark_framesOnly s.cfg.wire.ph s.cfg.regs.bteCtrl s.cfg.bte.enableMask true .bteStart
  refine ⟨⟨rfl, fun _ => rfl⟩, fun hrun => ⟨fun hseq => ?_, fun hseq => ?_, fun hseq => ?_, fun hseq => ?_⟩⟩
  · exact frameStep_goOn { act := .cmdw s.cfg.regs.bteCtrl } hrun rfl hframes hseq
  · exact frameStep_goOn { act := .datr s.cfg.wire.ph, save := true } hrun rfl hframes hseq
  · exact frameStep_goOn { act := .cmdw s.cfg.regs.bteCtrl } hrun rfl hframes hseq
  · exact frameStep_last { act := .datwRmw s.cfg.bte.enableMask true } hrun rfl hframes hseq

theorem progBteWait_framesOnly (c : Cfg) : (progBteWait c).FramesOnly := ⟨rfl, rfl⟩

/-- The read of a `BTE_WAIT` attempt: it ends the loop where the busy bit shows not busy (R190). -/
def bteWaitRead (c : Cfg) : Micro where
  act := .datr c.wire.ph
  ctl := .poll c.bte.busyMask (!c.bte.busyLevel) (.fwd 1) (.back 1)

/-- Settles O37: the byte of the second position decides between completion and the start of the loop. -/
theorem bteWaitPollsUntilNotBusy : Obligations.BteWaitPollsUntilNotBusy := by
  intro s
  have hframes := progBteWait_framesOnly s.cfg
  refine ⟨⟨rfl, fun _ => rfl⟩, fun hrun => ⟨fun hseq => ?_, fun hseq hbit => ?_, fun hseq hbit => ?_⟩⟩
  · exact frameStep_goOn { act := .cmdw s.cfg.regs.bteCtrl } hrun rfl hframes hseq
  · exact frameStep_last (bteWaitRead s.cfg) hrun rfl hframes hseq (hmove := next_poll_of_bitIs _ _ hbit)
  · exact frameStep_goBack (bteWaitRead s.cfg) 1 hrun rfl hframes hseq (next_poll_of_not_bitIs _ _ hbit)

/-! ### `FILL` -/

theorem rmwb_marks (ph a m : Byte) (e : Bool) (k : Nat) : (rmwb ph a m e).marks k = [] := by
  obtain _ | _ | _ | _ | k := k <;> simp [rmwb, plain]

section

variable (c : Cfg) (r g b colr setup : Byte)

/-- The field writers and the setup write of `FILL`, with the packed bytes given in place of the lookups in the tables
of `Cfg`. -/
def fillWriters : Prog :=
  progBteDestAddr c c.bte.fillDestAddr ++ progBteDestPos c 0#16 0#16 ++
    (wr8 c.regs.bteColr colr ++ [.mark .bteField]) ++ progBteAlpha c c.bte.fillAlpha ++
    progBteDestWidth c c.display.width ++ progBteWidth c c.display.width ++ progBteHeight c c.display.height ++
    progSetFgColor c r g b ++ (wr8 c.regs.bteSetup setup ++ [.mark .bteSetup])

variable {c colr setup} in
theorem progFill_eq (hcolr : c.bte.colr c.bte.depth24 c.bte.depth24 c.bte.depth24 = some colr)
    (hsetup : c.bte.setup c.bte.ropWhite c.bte.opcSolidFill = some setup) :
    progFill c r g b = fillWriters c r g b colr setup ++ progBteStart c := by
  rw [progFill, progBteColorDepth_eq hcolr, progBteSetup_eq hsetup, fillWriters]

/-- The ghost updates of `FILL` before the start: behind each field writer, and behind the setup write (R191). -/
def fillMarks : List (Nat × Mark) :=
  [(34, .bteSetup), (32, .bteField), (26, .bteField), (22, .bteField), (18, .bteField), (14, .bteField),
   (12, .bteField), (10, .bteField), (2, .bteField)]

/-- The ghost updates of `FILL` move `bte_phase` as R191 says. -/
theorem applyMarks_fillMarks (n : Nat) (u : State) :
    applyMarks (fillMarks.lookup n).toList u = { u with btePhase := fillPhase n u.btePhase } := by
  by_cases hfield : n ∈ [2, 10, 12, 14, 18, 22, 26, 32]
  · have hlookup : fillMarks.lookup n = some .bteField := by
      revert n
      decide
    rw [hlookup, fillPhase, if_pos hfield]
    exact applyMark_bteField u
  rw [fillPhase, if_neg hfield]
  by_cases hsetup : n = 34
  · subst hsetup
    refine (applyMark_bteSetup u).trans ?_
    by_cases hstarted : u.btePhase = .started <;> simp [hstarted]
  · have hlookup : fillMarks.lookup n = none := by
      have hkeys : ∀ x ∈ fillMarks, x.1 ∈ [2, 10, 12, 14, 18, 22, 26, 32] ∨ x.1 = 34 := by decide
      refine List.lookup_eq_none_iff.mpr fun x hx => bne_iff_ne.mpr ?_
      rintro rfl
      exact (hkeys x hx).elim hfield hsetup
    rw [hlookup, if_neg fun h => hsetup h.1]
    rfl

/-- The nine operations before the start are nine rows; the frames' brackets differ from `fillWrites` alone. -/
theorem fillWriters_rows :
    (fillWriters c r g b colr setup).Rows 34 (fillWrites c r g b colr setup) fillMarks :=
  Prog.Rows.nil.append_row .bteField (wr32_writes c.regs.bteDestAddr c.bte.fillDestAddr)
    |>.append_row .bteField ((wr16_writes c.regs.bteDestX 0#16).append (wr16_writes c.regs.bteDestY 0#16))
    |>.append_row .bteField (wr8_writes c.regs.bteColr colr)
    |>.append_row .bteField (wr8_writes c.regs.bteAlpha c.bte.fillAlpha)
    |>.append_row .bteField (wr16_writes c.regs.bteDestWidth c.display.width)
    |>.append_row .bteField (wr16_writes c.regs.bteWidth c.display.width)
    |>.append_row .bteField (wr16_writes c.regs.bteHeight c.display.height)
    |>.append_row .bteField (((wr8_writes c.regs.fgcR r).append (wr8_writes c.regs.fgcG g)).append
      (wr8_writes c.regs.fgcB b))
    |>.append_row .bteSetup (wr8_writes c.regs.bteSetup setup)

/-- The first 34 positions of `FILL` send its register writes. -/
theorem fill_pos_write {k : Nat} {tx : List Byte} (hk : (fillWrites c r g b colr setup)[k]? = some tx) :
    ∃ a : Act, Prog.pos (fillWriters c r g b colr setup ++ progBteStart c) k = some { act := a } ∧ a.reads = false ∧
      ∀ s, a.tx s = tx := by
  have hrows := fillWriters_rows c r g b colr setup
  obtain ⟨hlt, -⟩ := List.getElem?_eq_some_iff.mp hk
  rw [Prog.pos_append, if_pos (by rwa [hrows.size_eq, ← hrows.length])]
  exact hrows.exists_pos hk

/-- The positions behind them are those of the start. -/
theorem fill_pos_start (j : Nat) :
    Prog.pos (fillWriters c r g b colr setup ++ progBteStart c) (34 + j) = (progBteStart c).pos j := by
  rw [Prog.pos_append, (fillWriters_rows c r g b colr setup).size_eq, if_neg (by omega), Nat.add_sub_cancel_left]

theorem fill_marks (k : Nat) : Prog.marks (fillWriters c r g b colr setup ++ progBteStart c) k =
    if k = 38 then [.bteStart] else (fillMarks.lookup k).toList := by
  have hrows := fillWriters_rows c r g b colr setup
  rw [progBteStart, Prog.marks_append_row (rmwb_marks _ _ _ _) (Nat.succ_pos _), hrows.size_eq, hrows.marks]
  rfl

theorem fill_size : Prog.size (fillWriters c r g b colr setup ++ progBteStart c) = 38 := by
  rw [Prog.size_append, (fillWriters_rows c r g b colr setup).size_eq]
  rfl

theorem fill_framesOnly : Prog.FramesOnly (fillWriters c r g b colr setup ++ progBteStart c) where
  starts := fill_marks c r g b colr setup 0
  undelayed := by
    rw [List.any_append, (fillWriters_rows c r g b colr setup).undelayed]
    rfl

end

section

variable {s : State} {r g b colr setup : Byte}
  (hrun : Running (.fill r g b) s)
  (hcolr : s.cfg.bte.colr s.cfg.bte.depth24 s.cfg.bte.depth24 s.cfg.bte.depth24 = some colr)
  (hsetup : s.cfg.bte.setup s.cfg.bte.ropWhite s.cfg.bte.opcSolidFill = some setup)

include hrun hcolr hsetup

/-- A position of `FILL` that is not its last: it goes on, and `bte_phase` moves as R191 says. -/
theorem frameStep_fill_goOn (m : Micro)
    (hpos : Prog.pos (fillWriters s.cfg r g b colr setup ++ progBteStart s.cfg) s.seq = some m) (hseq : s.seq < 37)
    (hmove : m.ctl = .go (.fwd 1)) :
    FrameStep (.fill r g b) s (m.act.tx s) fun u =>
      { goOn (s.seq + 1) (store m (s.rxByte 1) u) with btePhase := fillPhase (s.seq + 1) u.btePhase } := by
  refine frameStep_of_pos m hrun (progFill_eq r g b hcolr hsetup) (fill_framesOnly _ _ _ _ _ _) hpos ?_
  rw [hmove, Ctl.next, move, store_seq, afterFrame_seq, arrive_inside, fill_marks, if_neg (by omega),
    applyMarks_fillMarks]
  · rfl
  · rw [fill_size]
    omega

end

/-- Settles O38: the write positions go on with the ghost updates behind them; the last four positions are the
read-modify-write of the start. -/
theorem fillStepsOneFrameAtATime : Obligations.FillStepsOneFrameAtATime := by
  intro s r g b colr setup
  refine ⟨⟨rfl, fun _ => rfl⟩, fun hrun hcolr hsetup => ?_⟩
  have hgoOn := frameStep_fill_goOn hrun hcolr hsetup
  have hstart := fill_pos_start s.cfg r g b colr setup
  refine ⟨fun tx htx => ?_, fun hseq => ?_, fun hseq => ?_, fun hseq => ?_, fun hseq => ?_⟩
  · obtain ⟨a, hpos, hreads, hsends⟩ := fill_pos_write _ _ _ _ _ _ htx
    obtain ⟨hlt, -⟩ := List.getElem?_eq_some_iff.mp htx
    rw [(fillWriters_rows _ _ _ _ _ _).length] at hlt
    have hstep := hgoOn { act := a } hpos (by omega) rfl
    simp only [hsends, store_write hreads] at hstep
    exact hstep
  · rw [hseq] at hgoOn
    exact hgoOn { act := .cmdw s.cfg.regs.bteCtrl } (hstart 0) (by decide) rfl
  · rw [hseq] at hgoOn
    exact hgoOn { act := .datr s.cfg.wire.ph, save := true } (hstart 1) (by decide) rfl
  · rw [hseq] at hgoOn
    exact hgoOn { act := .cmdw s.cfg.regs.bteCtrl } (hstart 2) (by decide) rfl
  · have hend : Prog.pos (fillWriters s.cfg r g b colr setup ++ progBteStart s.cfg) 38 = none :=
      (Prog.pos_eq_none _ _).mpr (fill_size _ _ _ _ _ _).le
    have hstep := frameStep_last { act := .datwRmw s.cfg.bte.enableMask true } hrun
      (progFill_eq r g b hcolr hsetup) (fill_framesOnly _ _ _ _ _ _) hseq (hstart 3) hend
    rw [fill_marks, if_pos rfl] at hstep
    exact hstep

end Sys2Proof.Claim
end

section
/-! PROOFS. The two encodings: the operand readers and their inverses, the host word of every operation and the frames,
in both directions (R75, R78, R81). -/

namespace Sys2Proof

open Operands

/-! ### The operand readers, forwards -/

/-- A flag is read back from its byte (R81). -/
theorem withFlag_flagByte (e : Bool) (rest : List Byte) (k : Bool → List Byte → DecodeResult) :
    Decode.withFlag (flagByte e :: rest) k = k e rest := by cases e <;> rfl

/-- A byte list is read back by its length (R81). -/
theorem withBytes_length (ds rest : List Byte) (k : List Byte → List Byte → DecodeResult) :
    Decode.withBytes ds.length (ds ++ rest) k = k ds rest := by
  rw [Decode.withBytes, splitBytes_append]

/-! ### The operand readers, backwards: what they have read when they answer an operation -/

section

variable {bs rest : List Byte} {i : Instr}

theorem with8_eq_done {k : Byte → List Byte → DecodeResult} :
    Decode.with8 bs k = .done i rest ↔ ∃ b r, bs = b :: r ∧ k b r = .done i rest := by
  cases bs <;> simp [Decode.with8]

theorem with16_eq_done {k : Half → List Byte → DecodeResult} :
    Decode.with16 bs k = .done i rest ↔ ∃ v r, bs = be16 v ++ r ∧ k v r = .done i rest := by
  constructor
  · intro h
    obtain _ | ⟨b, _ | ⟨b', r⟩⟩ := bs
    · cases h
    · cases h
    · exact ⟨half b b', r, by simp [be16], h⟩
  · rintro ⟨v, r, rfl, h⟩
    rw [with16_be16, h]

theorem with32_eq_done {k : Word → List Byte → DecodeResult} :
    Decode.with32 bs k = .done i rest ↔ ∃ v r, bs = be32 v ++ r ∧ k v r = .done i rest := by
  constructor
  · intro h
    obtain _ | ⟨b3, _ | ⟨b2, _ | ⟨b1, _ | ⟨b0, r⟩⟩⟩⟩ := bs
    · cases h
    · cases h
    · cases h
    · cases h
    · exact ⟨word b3 b2 b1 b0, r, by simp [be32_word], h⟩
  · rintro ⟨v, r, rfl, h⟩
    rw [with32_be32, h]

theorem withFlag_eq_done {k : Bool → List Byte → DecodeResult} :
    Decode.withFlag bs k = .done i rest ↔ ∃ e r, bs = flagByte e :: r ∧ k e r = .done i rest := by
  constructor
  · intro h
    obtain ⟨b, r, rfl, h⟩ := with8_eq_done.mp h
    replace h : (if b = 0x00#8 then k false r else if b = 0x01#8 then k true r else .rejected (.flagByte b)) =
      .done i rest := h
    split at h
    next hb => exact ⟨false, r, by rw [hb]; rfl, h⟩
    next =>
      split at h
      next hb => exact ⟨true, r, by rw [hb]; rfl, h⟩
      next => cases h
  · rintro ⟨e, r, rfl, h⟩
    rw [withFlag_flagByte, h]

theorem withBytes_eq_done {n : Nat} {k : List Byte → List Byte → DecodeResult} :
    Decode.withBytes n bs k = .done i rest ↔ ∃ ds r, ds.length = n ∧ bs = ds ++ r ∧ k ds r = .done i rest := by
  constructor
  · intro h
    unfold Decode.withBytes at h
    split at h
    next p hp =>
      obtain ⟨hlen, hbs⟩ := splitBytes_eq_some hp
      exact ⟨p.1, p.2, hlen, hbs, h⟩
    next => cases h
  · rintro ⟨ds, r, rfl, rfl, h⟩
    rw [withBytes_length, h]

end

end Sys2Proof

namespace Sys2Proof.Claim

open Sys2Proof Machine Operands

/-! ### Host words -/

/-- The length field of a well-formed burst holds its length (R81, R85). -/
theorem datwb_length {c : Cfg} {ds : List Byte} (h : WellFormed.check c (.datwb ds) = none) :
    (BitVec.ofNat 8 ds.length).toNat = ds.length := by
  have hlen := holds_of_need h
  simp only [Bool.and_eq_true, decide_eq_true_eq] at hlen
  rw [BitVec.toNat_ofNat]
  omega

/-- A well-formed text has at most 65535 bytes (R85). -/
theorem writeText_length {c : Cfg} {txt : List Byte} (h : WellFormed.check c (.writeText txt) = none) :
    txt.length ≤ 65535 := by
  by_contra hlen
  simp [WellFormed.check, WellFormed.broken, WellFormed.need, hlen] at h

/-- The host word of a burst whose length its length field holds (R81). -/
theorem datwb_hostWord {ds : List Byte} (h : ds.length ≤ 255) :
    HostWord (0x81#8 :: BitVec.ofNat 8 ds.length :: ds) (.datwb ds) := by
  refine ⟨rfl, fun rest => ?_⟩
  have hlen : (BitVec.ofNat 8 ds.length).toNat = ds.length := by
    rw [BitVec.toNat_ofNat]
    omega
  change Decode.withBytes (BitVec.ofNat 8 ds.length).toNat (ds ++ rest) (fun ds r => .done (.datwb ds) r) = _
  rw [hlen, withBytes_length]

/-- Settles O9: each operand reader reads its operand back, and where there is none the decoder's row is the word. -/
theorem decodeOfEncodeIsTheOperation : Obligations.DecodeOfEncodeIsTheOperation := by
  intro c i hhost hcheck rest
  cases i
  case frameCommandWrite | frameStatusRead | frameDataWrite | frameDataRead | frameDataBurst => cases hhost
  case datwb ds =>
    have hlen := datwb_length hcheck
    change Decode.withBytes (BitVec.ofNat 8 ds.length).toNat (ds ++ rest) (fun ds r => .done (.datwb ds) r) = _
    rw [hlen, withBytes_length]
  case writeText txt =>
    obtain ⟨hword, hdecode⟩ := writeText_hostWord (writeText_length hcheck)
    rw [hword, hdecode]
  case wr16 a v => exact with16_be16 v rest fun v r => .done (.wr16 a v) r
  case wr32 a v => exact with32_be32 v rest fun v r => .done (.wr32 a v) r
  case pollr a m t => exact withFlag_flagByte t rest fun t r => .done (.pollr a m t) r
  case polls m t => exact withFlag_flagByte t rest fun t r => .done (.polls m t) r
  case setDisplaySize w h =>
    exact (with16_be16 w (be16 h ++ rest) fun w r => Decode.with16 r fun h r => .done (.setDisplaySize w h) r).trans
      (with16_be16 h rest _)
  case enableDisplay e => exact withFlag_flagByte e rest fun e r => .done (.enableDisplay e) r
  case enableTestPattern e => exact withFlag_flagByte e rest fun e r => .done (.enableTestPattern e) r
  case enableTextMode e => exact withFlag_flagByte e rest fun e r => .done (.enableTextMode e) r
  case setTextCursorX v => exact with16_be16 v rest fun v r => .done (.setTextCursorX v) r
  case setTextCursorY v => exact with16_be16 v rest fun v r => .done (.setTextCursorY v) r
  case bteDestAddr v => exact with32_be32 v rest fun v r => .done (.bteDestAddr v) r
  case bteDestPos x y =>
    exact (with16_be16 x (be16 y ++ rest) fun x r => Decode.with16 r fun y r => .done (.bteDestPos x y) r).trans
      (with16_be16 y rest _)
  case bteDestWidth v => exact with16_be16 v rest fun v r => .done (.bteDestWidth v) r
  case bteWidth v => exact with16_be16 v rest fun v r => .done (.bteWidth v) r
  case bteHeight v => exact with16_be16 v rest fun v r => .done (.bteHeight v) r
  all_goals rfl

/-- The operands an opcode byte names, read backwards: the bytes are the operation's word (R81). -/
theorem operands_eq_done {op : Byte} {bs rest : List Byte} {i : Instr} (h : Decode.operands op bs = .done i rest) :
    i.isFrame = false ∧ op :: bs = encode i ++ rest := by
  have hop : op = BitVec.ofNat 8 op.toNat := by simp
  unfold Decode.operands at h
  split at h
  case h_44 => cases h
  all_goals
    rename_i hn
    rw [hn] at hop
    subst hop
    simp only [with8_eq_done, with16_eq_done, with32_eq_done, withFlag_eq_done, withBytes_eq_done,
      DecodeResult.done.injEq] at h
  case h_5 =>
    obtain ⟨n, _, rfl, ds, _, hlen, rfl, rfl, rfl⟩ := h
    refine ⟨rfl, ?_⟩
    rw [encode, hlen, BitVec.ofNat_toNat, BitVec.setWidth_eq]
    rfl
  case h_28 =>
    obtain ⟨n, _, rfl, txt, _, hlen, rfl, rfl, rfl⟩ := h
    refine ⟨rfl, ?_⟩
    rw [encode, hlen, BitVec.ofNat_toNat, BitVec.setWidth_eq]
    rfl
  case h_2 | h_4 | h_12 | h_13 | h_14 | h_16 | h_17 | h_18 | h_19 | h_20 | h_21 | h_22 | h_23 | h_24 | h_31 | h_41 |
      h_42 =>
    obtain ⟨rfl, rfl⟩ := h
    exact ⟨rfl, rfl⟩
  case h_1 | h_3 | h_9 | h_25 | h_26 | h_27 | h_29 | h_30 | h_32 | h_35 | h_36 | h_37 | h_38 =>
    obtain ⟨_, _, rfl, rfl, rfl⟩ := h
    exact ⟨rfl, rfl⟩
  case h_6 | h_7 | h_8 | h_11 | h_15 | h_33 | h_40 =>
    obtain ⟨_, _, rfl, _, _, rfl, rfl, rfl⟩ := h
    exact ⟨rfl, rfl⟩
  case h_10 | h_34 | h_39 | h_43 =>
    obtain ⟨_, _, rfl, _, _, rfl, _, _, rfl, rfl, rfl⟩ := h
    exact ⟨rfl, rfl⟩

/-- Settles O10: the operand readers read exactly the bytes their operands are written with. -/
theorem encodeOfDecodeIsTheWord : Obligations.EncodeOfDecodeIsTheWord := by
  intro bs i rest h
  cases bs with
  | nil => cases h
  | cons op bs => exact operands_eq_done h

/-! ### Opcode bytes outside the table -/

/-- An opcode byte outside R81's table is refused, whatever bytes follow (R78). -/
theorem decode_reserved {op : Byte} (bs : List Byte)
    (h : op.toNat ∉ [0x00, 0x40, 0x80, 0xC0, 0x81, 0x10, 0x11, 0x12, 0x13, 0x14, 0x15, 0x20, 0x21, 0x22, 0x23, 0x24,
      0x25, 0x26, 0x27, 0x28, 0x29, 0x2A, 0x2B, 0x2C, 0x30, 0x31, 0x32, 0x33, 0x34, 0x35, 0x36, 0x50, 0x51, 0x52, 0x53,
      0x54, 0x55, 0x56, 0x57, 0x58, 0x59, 0x5A, 0x5B]) :
    decode (op :: bs) = .rejected (.reservedOpcode op) := by
  rw [decode, Decode.operands]
  split
  case h_44 => rfl
  all_goals
    rename_i hop
    rw [hop] at h
    exact absurd h (by decide)

/-! ### Frames -/

/-- Settles O11: each kind of frame is read by its mode byte, a burst by its length. -/
theorem framesDecodeAndEncode : Obligations.FramesDecodeAndEncode := by
  refine ⟨fun i hframe hburst => ?_, fun tx i h => ?_⟩
  · cases i
    case frameCommandWrite | frameStatusRead | frameDataWrite | frameDataRead => rfl
    case frameDataBurst ds =>
      obtain _ | ⟨b0, _ | ⟨b1, bs⟩⟩ := ds
      · exact absurd (hburst _ rfl) (by simp)
      · exact absurd (hburst _ rfl) (by simp)
      · rfl
    all_goals cases hframe
  · unfold decodeFrame at h
    split at h
    next m b =>
      split_ifs at h with hcmdw hstsr hdatw hdatr
      · cases h
        exact ⟨rfl, congrArg (· :: [b]) hcmdw.symm⟩
      · cases h
        exact ⟨rfl, congrArg (· :: [b]) hstsr.symm⟩
      · cases h
        exact ⟨rfl, congrArg (· :: [b]) hdatw.symm⟩
      · cases h
        exact ⟨rfl, congrArg (· :: [b]) hdatr.symm⟩
    next m b0 b1 bs =>
      split_ifs at h with hdatw
      cases h
      exact ⟨rfl, congrArg (· :: b0 :: b1 :: bs) hdatw.symm⟩
    next => cases h

/-- Settles O8: the decoders, run on the words written out. -/
theorem writtenOutHostWordsDecode : Obligations.WrittenOutHostWordsDecode := by
  unfold Obligations.WrittenOutHostWordsDecode
  decide

end Sys2Proof.Claim
end

section
/-! PROOFS. The checks of R85: what each one passes, which name a broken one gives the refusal, and that under a
well-formed configuration only operands break one (R20, R46, R78). -/

namespace Sys2Proof

/-! ### The checks -/

theorem head?_need (ok : Bool) (c : Check) : (WellFormed.need ok c).head? = none ↔ ok = true := by
  cases ok <;> simp [WellFormed.need]

/-- An operation with one check is well formed where the check holds. -/
theorem check_eq_none_iff {c : Cfg} {i : Instr} {ok : Bool} {k : Check}
    (h : WellFormed.broken c i = WellFormed.need ok k) : WellFormed.check c i = none ↔ ok = true := by
  rw [WellFormed.check, h, head?_need]

/-- An operation whose first check is broken is refused by its name. -/
theorem check_eq_some {c : Cfg} {i : Instr} {ok : Bool} {k : Check} {ks : List Check}
    (h : WellFormed.broken c i = WellFormed.need ok k ++ ks) (hok : ok = false) :
    WellFormed.check c i = some k := by
  rw [WellFormed.check, h, hok]
  rfl

theorem pairBase_iff (a : Byte) : WellFormed.pairBase a = true ↔ a ≠ 0xFF#8 := bne_iff_ne

theorem width_iff (w : Half) :
    WellFormed.width w = true ↔ w.toNat % 8 = 0 ∧ 8 ≤ w.toNat ∧ w.toNat ≤ 2048 := by
  simp [WellFormed.width, and_assoc]

theorem height_iff (h : Half) : WellFormed.height h = true ↔ 1 ≤ h.toNat := by simp [WellFormed.height]

end Sys2Proof

namespace Sys2Proof.Claim

open Sys2Proof Machine

/-! ### Refusals -/

theorem exec_illFormed {i : Instr} {s : State} {c : Check} (h : WellFormed.check s.cfg i = some c) :
    exec i s = .refused (.illFormed c) := by
  rw [exec_eq_perform]
  exact perform_illFormed _ _ h

/-- Settles O13: the broken check is the first in the model's order. -/
theorem illFormedOperationsAreRefusedByName : Obligations.IllFormedOperationsAreRefusedByName := by
  refine ⟨fun s i c => exec_illFormed, fun s v => ?_, fun s a m t => exec_refused_of_not_oneBit rfl,
    fun s m t => exec_refused_of_not_oneBit rfl, fun s ds hlen => ?_, fun s w h hw => ?_, fun s w hw => ?_,
    fun s txt hlen => ?_, fun s s0 s1 d hcodes => ?_, fun s rop opc hcodes => ?_⟩
  · exact exec_illFormed rfl
  · refine exec_illFormed (check_eq_some (List.append_nil _).symm ?_)
    simpa [-not_and, Bool.eq_false_iff] using hlen
  · refine exec_illFormed (check_eq_some (List.append_assoc _ _ _) ?_)
    simpa using mt (width_iff w).mp hw
  · have hwidth := (width_iff w).mpr hw
    apply exec_illFormed
    simp [WellFormed.check, WellFormed.broken, WellFormed.need, hwidth, WellFormed.height]
  · refine exec_illFormed (check_eq_some rfl ?_)
    simpa using hlen
  · refine exec_illFormed (check_eq_some (List.append_nil _).symm ?_)
    rw [hcodes]
    rfl
  · refine exec_illFormed (check_eq_some (List.append_nil _).symm ?_)
    rw [hcodes]
    rfl

/-! ### Well-formed configurations -/

/-- Settles O14: the invariants of the configuration are the checks on parameters; what is left of each operation's
checks are those on its operands. -/
theorem wellFormedConfigurationAdmitsOperations : Obligations.WellFormedConfigurationAdmitsOperations := by
  intro c hcfg
  simp only [WellFormed.cfg, Bool.and_eq_true, and_assoc] at hcfg
  obtain ⟨hpairs, -, hbusy, hwfifo, hready, hdone, hon, hbar, htext, henable, hbteBusy, -, hsdram, hback, hfront, hmain,
    hactive, hcanvas, hpixel, hsyscfg, hsync, hctrl, -, hwidth, hheight, hcolr, hsetup⟩ := hcfg
  have hpair (r : Reg) (hr : r.widthClass = .w16) : WellFormed.pairBase (c.regs.addr r) = true := by
    have hmem : r ∈ Reg.all := by cases r <;> decide
    simpa [hr] using List.all_eq_true.mp hpairs r hmem
  have hdispHeight : WellFormed.pairBase c.regs.dispHeight = true := hpair .dispHeight rfl
  have htcurX : WellFormed.pairBase c.regs.tcurX = true := hpair .tcurX rfl
  have htcurY : WellFormed.pairBase c.regs.tcurY = true := hpair .tcurY rfl
  have hdestX : WellFormed.pairBase c.regs.bteDestX = true := hpair .bteDestX rfl
  have hdestY : WellFormed.pairBase c.regs.bteDestY = true := hpair .bteDestY rfl
  have hdestWidth : WellFormed.pairBase c.regs.bteDestWidth = true := hpair .bteDestWidth rfl
  have hbteWidth : WellFormed.pairBase c.regs.bteWidth = true := hpair .bteWidth rfl
  have hbteHeight : WellFormed.pairBase c.regs.bteHeight = true := hpair .bteHeight rfl
  refine ⟨?_, fun a => ⟨rfl, rfl, rfl, rfl⟩, fun a v => rfl, fun a v => rfl, fun v => rfl, fun e => ?_, fun v => ?_,
    fun x y => ?_, fun r g b => ⟨?_, rfl⟩, fun txt => ?_, fun a v => ?_, fun a m t => ?_, fun m t => ?_, fun ds => ?_,
    fun w h => ?_, fun s0 s1 d => ?_, fun rop opc => ?_⟩
  · simp only [List.forall_mem_cons, List.not_mem_nil, false_imp_iff, implies_true, and_true]
    simp [WellFormed.check, WellFormed.broken, WellFormed.need, hready, hdone, henable, hbteBusy, hsdram, hback, hfront,
      hmain, hactive, hcanvas, hpixel, hsyscfg, hsync, hctrl, hwidth, hheight, hdispHeight, htcurY]
  · exact ⟨(check_eq_none_iff rfl).mpr hon, (check_eq_none_iff rfl).mpr hbar, (check_eq_none_iff rfl).mpr htext⟩
  · exact ⟨(check_eq_none_iff rfl).mpr htcurX, (check_eq_none_iff rfl).mpr htcurY,
      (check_eq_none_iff rfl).mpr hdestWidth, (check_eq_none_iff rfl).mpr hbteWidth,
      (check_eq_none_iff rfl).mpr hbteHeight⟩
  · exact (check_eq_none_iff rfl).mpr (by rw [hdestX, hdestY]; rfl)
  · simp [WellFormed.check, WellFormed.broken, WellFormed.need, hdestX, hdestY, hdestWidth, hbteWidth, hbteHeight,
      hcolr, hsetup, henable]
  · have hmasks : (WellFormed.oneBit c.status.wfifoMask && WellFormed.oneBit c.status.busyMask) = true := by
      rw [hwfifo, hbusy]
      rfl
    rw [check_eq_none_iff (k := .textLen) (ok := decide (txt.length ≤ 65535)), decide_eq_true_iff]
    rw [WellFormed.broken, hmasks]
    exact List.append_nil _
  · rw [check_eq_none_iff rfl, pairBase_iff]
  · rw [check_eq_none_iff rfl, wellFormed_oneBit_iff]
  · rw [check_eq_none_iff rfl, wellFormed_oneBit_iff]
  · rw [check_eq_none_iff rfl, Bool.and_eq_true, decide_eq_true_iff, decide_eq_true_iff]
  · have hsize : WellFormed.check c (.setDisplaySize w h) = none ↔
        WellFormed.width w = true ∧ WellFormed.height h = true := by
      simp [WellFormed.check, WellFormed.broken, WellFormed.need, hdispHeight]
    rw [hsize, width_iff, height_iff, and_assoc, and_assoc]
  · rw [check_eq_none_iff rfl, Option.isSome_iff_ne_none]
  · rw [check_eq_none_iff rfl, Option.isSome_iff_ne_none]

end Sys2Proof.Claim
end

section
/-! PROOFS. The transport operations, the register writes and `SET_DISPLAY_CTRL`: rows of write frames, and reads of one
frame (R101 to R105, R120 to R122, R153). -/

namespace Sys2Proof.Claim

open Sys2Proof Machine Operands

/-! ### Transport -/

/-- Settles O15: each is a row of one write frame. -/
theorem transportWritesAreOneFrame : Obligations.TransportWritesAreOneFrame := by
  intro s _
  refine ⟨fun a => ⟨⟨rfl, fun _ => rfl⟩, fun hrun => ?_⟩, fun d => ⟨⟨rfl, fun _ => rfl⟩, fun hrun => ?_⟩,
    fun ds => ⟨datwb_hostWord, fun hrun => ?_⟩, fun a hrun => ?_, fun d hrun => ?_, fun ds hrun => ?_⟩
  · exact sends_of_writes hrun rfl (.cons (.cmdw a) .nil) rfl
  · exact sends_of_writes hrun rfl (.cons (.datw d) .nil) rfl
  · exact sends_of_writes hrun rfl (.cons (.datwb ds) .nil) rfl
  · exact sends_of_writes hrun rfl (.cons (.cmdw a) .nil) rfl
  · exact sends_of_writes hrun rfl (.cons (.datw d) .nil) rfl
  · exact sends_of_writes hrun rfl (.cons (.datwb ds) .nil) rfl

/-- An operation that is one read frame completes with the byte read (R103, R104). -/
theorem frameStep_read {i : Instr} {s : State} (a : Act) (hrun : Running i s) (hseq : s.seq = 0)
    (hexp : expansion s.cfg i = [plain a]) (hreads : a.reads = true) (hres : resultOf i = resultByte) :
    FrameStep i s (a.tx s) fun u => done 1 (.okByte (s.rxByte 1)) { u with rx := s.rxByte 1 } := by
  have hlast := frameStep_last { act := a } hrun hexp ⟨rfl, rfl⟩ hseq
  have hstore (u : State) : store { act := a } (s.rxByte 1) u = { u with rx := s.rxByte 1 } := by
    simp [store, hreads]
  simp only [hstore, hres] at hlast
  exact hlast

/-- Settles O16: each is one read frame. -/
theorem transportReadsKeepResponseByteOne : Obligations.TransportReadsKeepResponseByteOne := by
  intro s hseq
  refine ⟨⟨⟨rfl, fun _ => rfl⟩, fun hrun => ?_⟩, ⟨⟨rfl, fun _ => rfl⟩, fun hrun => ?_⟩, fun p hrun => ?_,
    fun p hrun => ?_⟩
  · exact frameStep_read (.datr s.cfg.wire.ph) hrun hseq rfl rfl rfl
  · exact frameStep_read (.stsr s.cfg.wire.ph) hrun hseq rfl rfl rfl
  · exact frameStep_read (.datr p) hrun hseq rfl rfl rfl
  · exact frameStep_read (.stsr p) hrun hseq rfl rfl rfl

/-! ### The register writes -/

/-- Settles O17: each is the row of its frames. -/
theorem registerWritesSendTheirFrames : Obligations.RegisterWritesSendTheirFrames := by
  intro s
  refine ⟨fun a v => ⟨⟨rfl, fun _ => rfl⟩, fun hrun => ?_⟩,
    fun a v => ⟨⟨rfl, fun rest => ?_⟩, fun hrun => ?_, ?_⟩, fun a v => ⟨⟨rfl, fun rest => ?_⟩, fun hrun => ?_⟩⟩
  · exact sends_of_writes hrun rfl (wr8_writes a v) rfl
  · exact with16_be16 v rest fun v r => .done (.wr16 a v) r
  · exact sends_of_writes hrun rfl (wr16_writes a v) rfl
  · rintro rfl
    exact exec_illFormed rfl
  · exact with32_be32 v rest fun v r => .done (.wr32 a v) r
  · exact sends_of_writes hrun rfl (wr32_writes a v) rfl

/-! ### `SET_DISPLAY_CTRL` -/

/-- A toggle's bit in the words of the statements. -/
theorem toggle_ofBit_pollHit (v m : Byte) : Toggle.ofBit (pollHit v m true) = toggleOf v m := by
  by_cases h : v &&& m = 0#8 <;> simp [pollHit, toggleOf, Toggle.ofBit, h]

/-- Where every entry of a list writes register `a`, the last one is the last write of it (R153). -/
theorem lastWrite_eq_getLast? {a : Byte} {l : List RegWrite} (h : ∀ w ∈ l, ∃ v, w = .w8 a v) :
    (lastWrite a l).map (RegWrite.w8 a) = l.getLast? := by
  induction l with
  | nil => rfl
  | cons w l ih =>
    obtain ⟨⟨v, rfl⟩, hl⟩ := List.forall_mem_cons.mp h
    rw [List.getLast?_cons, ← ih hl, lastWrite]
    cases lastWrite a l <;> simp

/-- The ghost updates at the end of the list are those of the statements (R153). -/
theorem applyMarks_dispCtrl {c : Cfg} (h : WritesDispCtrl c) {u : State} (hu : u.cfg = c) :
    applyMarks ((lastWrite c.regs.dispCtrl c.steps.displayCtrl).map Mark.dispCtrl).toList u = ctrlToggles c u := by
  subst hu
  rw [ctrlToggles, ← lastWrite_eq_getLast? h]
  cases lastWrite u.cfg.regs.dispCtrl u.cfg.steps.displayCtrl with
  | none => rfl
  | some v => simp [applyMark, toggle_ofBit_pollHit]

/-- What happens at completion is only asked of states with the configuration at hand. -/
theorem Sends.congr_fin {i : Instr} {s : State} {fs : List (List Byte)} {fin fin' : State → State}
    (h : Sends i s fs fin) (hfin : ∀ u : State, u.cfg = s.cfg → fin u = fin' u) : Sends i s fs fin' := by
  intro tx htx
  obtain ⟨hok, herr⟩ := h tx htx
  refine ⟨fun hnone => ?_, herr⟩
  have hdone : fin (done (s.seq + 1) .ok (afterFrame tx s)) = fin' (done (s.seq + 1) .ok (afterFrame tx s)) :=
    hfin _ rfl
  simpa only [hdone] using hok hnone

/-- Settles O23: an empty list is no frame; else the list's frames, with one ghost update behind them. -/
theorem displayControlWriteSetsTheToggles : Obligations.DisplayControlWriteSetsTheToggles := by
  intro s
  refine ⟨⟨rfl, fun _ => rfl⟩, fun hrun hwrites => ⟨?_, fun hnil hseq => ?_⟩⟩
  · have hfin (u : State) (hu : u.cfg = s.cfg) := applyMarks_dispCtrl hwrites hu
    cases hlast : lastWrite s.cfg.regs.dispCtrl s.cfg.steps.displayCtrl with
    | none =>
      have hexp : expansion s.cfg .setDisplayCtrl = cfgStep s.cfg.steps.displayCtrl := by
        simp [expansion, progSetDisplayCtrl, hlast]
      rw [hlast] at hfin
      exact (sends_of_writes hrun hexp (cfgStep_writes _) rfl).congr_fin hfin
    | some v =>
      have hexp : expansion s.cfg .setDisplayCtrl = cfgStep s.cfg.steps.displayCtrl ++ [.mark (.dispCtrl v)] := by
        simp [expansion, progSetDisplayCtrl, hlast]
      rw [hlast] at hfin
      exact (sends_of_writes_mark (.dispCtrl v) hrun hexp (cfgStep_writes _) rfl).congr_fin hfin
  · exact exec_empty hrun (by simp [expansion, progSetDisplayCtrl, hnil, cfgStep, lastWrite]) rfl hseq

end Sys2Proof.Claim
end

section
/-! PROOFS. What one step can do, said once: the step of an operation as one of six cases, what every such step leaves
unchanged, and the step of the machine outside an operation (R8, R12, R15, R17, R240). -/

namespace Sys2Proof.Machine

open Sys2Proof

/-! ### The start of an operation changes ghost state only -/

section

variable (p : Prog) (s : State)

@[simp] theorem startOp_cs : (startOp p s).cs = s.cs := by unfold startOp; split <;> simp
@[simp] theorem startOp_opv : (startOp p s).opv = s.opv := by unfold startOp; split <;> simp
@[simp] theorem startOp_op : (startOp p s).op = s.op := by unfold startOp; split <;> simp
@[simp] theorem startOp_seq : (startOp p s).seq = s.seq := by unfold startOp; split <;> simp
@[simp] theorem startOp_rx : (startOp p s).rx = s.rx := by unfold startOp; split <;> simp
@[simp] theorem startOp_tmp : (startOp p s).tmp = s.tmp := by unfold startOp; split <;> simp
@[simp] theorem startOp_fault : (startOp p s).fault = s.fault := by unfold startOp; split <;> simp
@[simp] theorem startOp_faultInfo : (startOp p s).faultInfo = s.faultInfo := by unfold startOp; split <;> simp
@[simp] theorem startOp_result : (startOp p s).result = s.result := by unfold startOp; split <;> simp
@[simp] theorem startOp_trace : (startOp p s).trace = s.trace := by unfold startOp; split <;> simp
@[simp] theorem startOp_cfg : (startOp p s).cfg = s.cfg := by unfold startOp; split <;> simp
@[simp] theorem startOp_hostIn : (startOp p s).hostIn = s.hostIn := by unfold startOp; split <;> simp
@[simp] theorem startOp_resetIn : (startOp p s).resetIn = s.resetIn := by unfold startOp; split <;> simp
@[simp] theorem startOp_link : (startOp p s).link = s.link := by unfold startOp; split <;> simp
@[simp] theorem startOp_draws : (startOp p s).draws = s.draws := by unfold startOp; split <;> simp
@[simp] theorem startOp_timer : (startOp p s).timer = s.timer := by unfold startOp; split <;> simp
@[simp] theorem startOp_timerIn : (startOp p s).timerIn = s.timerIn := by unfold startOp; split <;> simp

@[simp] theorem startOp_answer : (startOp p s).answer = s.answer := answer_congr (startOp_link p s) (startOp_draws p s)

@[simp] theorem startOp_rxByte (k : Nat) : (startOp p s).rxByte k = s.rxByte k :=
  rxByte_congr (startOp_link p s) (startOp_draws p s) k

@[simp] theorem startOp_xfersFrom (k : Nat) (tx : List Byte) : xfersFrom (startOp p s) k tx = xfersFrom s k tx :=
  xfersFrom_congr (startOp_link p s) (startOp_draws p s) k tx

end

/-- The bytes a position sends depend on `TMP` alone. -/
theorem Act.tx_congr (a : Act) {s t : State} (h : s.tmp = t.tmp) : a.tx s = a.tx t := by
  cases a <;> simp [Act.tx, h]

/-! ### What a move leaves unchanged -/

section

variable (p : Prog) (res : State → Result) (m : Move) (s : State)

@[simp] theorem move_cs : (move p res m s).cs = s.cs := by
  obtain ⟨h, -⟩ := move_frame p res m s
  exact h
@[simp] theorem move_op : (move p res m s).op = s.op := by
  obtain ⟨-, h, -⟩ := move_frame p res m s
  exact h
@[simp] theorem move_rx : (move p res m s).rx = s.rx := by
  obtain ⟨-, -, h, -⟩ := move_frame p res m s
  exact h
@[simp] theorem move_tmp : (move p res m s).tmp = s.tmp := by
  obtain ⟨-, -, -, h, -⟩ := move_frame p res m s
  exact h
@[simp] theorem move_fault : (move p res m s).fault = s.fault := by
  obtain ⟨-, -, -, -, h, -⟩ := move_frame p res m s
  exact h
@[simp] theorem move_trace : (move p res m s).trace = s.trace := by
  obtain ⟨-, -, -, -, -, -, h, -⟩ := move_frame p res m s
  exact h
@[simp] theorem move_cfg : (move p res m s).cfg = s.cfg := by
  obtain ⟨-, -, -, -, -, -, -, h, -⟩ := move_frame p res m s
  exact h
@[simp] theorem move_hostIn : (move p res m s).hostIn = s.hostIn := by
  obtain ⟨-, -, -, -, -, -, -, -, h, -⟩ := move_frame p res m s
  exact h
@[simp] theorem move_resetIn : (move p res m s).resetIn = s.resetIn := by
  obtain ⟨-, -, -, -, -, -, -, -, -, h, -⟩ := move_frame p res m s
  exact h
@[simp] theorem move_link : (move p res m s).link = s.link := by
  obtain ⟨-, -, -, -, -, -, -, -, -, -, h, -⟩ := move_frame p res m s
  exact h
@[simp] theorem move_draws : (move p res m s).draws = s.draws := by
  obtain ⟨-, -, -, -, -, -, -, -, -, -, -, h, -⟩ := move_frame p res m s
  exact h
@[simp] theorem move_timer : (move p res m s).timer = s.timer := by
  obtain ⟨-, -, -, -, -, -, -, -, -, -, -, -, h, -⟩ := move_frame p res m s
  exact h
@[simp] theorem move_timerIn : (move p res m s).timerIn = s.timerIn := by
  obtain ⟨-, -, -, -, -, -, -, -, -, -, -, -, -, h⟩ := move_frame p res m s
  exact h

end

/-! ### The cases of a step of an operation -/

/-- The byte `RX` holds after a position: the one it read, if it reads. -/
def Micro.rxAfter (m : Micro) (s : State) : Byte := if m.act.reads then s.rxByte 1 else s.rx

/-- The state in which position `m` has sent its frame and stored the byte read. -/
def afterPosition (p : Prog) (m : Micro) (s : State) : State :=
  store m (s.rxByte 1) (frameSent (m.act.tx s) (startOp p s))

/-- What one step of operation `i` can be: the request of a delay that is due, the end of a pending one, or its going
on; completion with no frame; a frame whose transfer fails, or a frame and the move that follows it (R15, R100, R212,
R222). -/
inductive OpStep (i : Instr) (s : State) : State → Prop
  | requests {ms n : Nat} (hdue : (expansion s.cfg i).due s = some (ms, n)) (htimer : s.timer = none) :
      OpStep i s (requestDelay ms s)
  | delayEnds {ms n : Nat} (hdue : (expansion s.cfg i).due s = some (ms, n)) (htimer : s.timer ≠ none) :
      OpStep i s (delayEnded n { s with timerIn := s.timerIn.tail })
  | delayGoesOn {ms n : Nat} (hdue : (expansion s.cfg i).due s = some (ms, n)) (htimer : s.timer ≠ none) :
      OpStep i s { s with timerIn := s.timerIn.tail }
  | empty (hdue : (expansion s.cfg i).due s = none) (hpos : (expansion s.cfg i).pos s.seq = none) :
      OpStep i s (complete (resultOf i) (startOp (expansion s.cfg i) s))
  | failed {m : Micro} {e : LinkError} (hdue : (expansion s.cfg i).due s = none)
      (hpos : (expansion s.cfg i).pos s.seq = some m) (herr : s.answer.err = some e) :
      OpStep i s (frameFailed e (m.act.tx s) (startOp (expansion s.cfg i) s))
  | sent {m : Micro} (hdue : (expansion s.cfg i).due s = none) (hpos : (expansion s.cfg i).pos s.seq = some m)
      (herr : s.answer.err = none) :
      OpStep i s (move (expansion s.cfg i) (resultOf i) (m.ctl.next (m.rxAfter s))
        (afterPosition (expansion s.cfg i) m s))

/-- A step of an operation that answers a next state: the operation is well formed, and the step is one of the six. -/
theorem opStep_of_exec {i : Instr} {s t : State} (h : exec i s = .next t) :
    WellFormed.check s.cfg i = none ∧ OpStep i s t := by
  rw [exec_eq_perform] at h
  obtain ⟨hcheck, ⟨ms, n, hdue, rfl⟩ | ⟨hdue, hpos, rfl⟩ | ⟨m, hdue, hpos, -, rfl⟩⟩ := perform_cases h
  · refine ⟨hcheck, ?_⟩
    obtain ⟨htimer, h⟩ | ⟨htimer, -, h⟩ | ⟨htimer, -, h⟩ := delayStep_cases ms n s <;> rw [h]
    · exact .requests hdue htimer
    · exact .delayEnds hdue (Option.isSome_iff_ne_none.mp htimer)
    · exact .delayGoesOn hdue (Option.isSome_iff_ne_none.mp htimer)
  · exact ⟨hcheck, .empty hdue hpos⟩
  · have htx : m.act.tx (startOp (expansion s.cfg i) s) = m.act.tx s := m.act.tx_congr (startOp_tmp _ s)
    refine ⟨hcheck, ?_⟩
    cases herr : s.answer.err with
    | some e =>
      rw [runFrame, frame_err _ _ (by rwa [startOp_answer]), htx]
      exact .failed hdue hpos herr
    | none =>
      rw [runFrame, frame_ok _ _ (by rwa [startOp_answer]), htx, follow_eq_move_next, startOp_rxByte]
      have hrx : (store m (s.rxByte 1) (frameSent (m.act.tx s) (startOp (expansion s.cfg i) s))).rx = m.rxAfter s := by
        simp [store, Micro.rxAfter]
      rw [hrx]
      exact .sent hdue hpos herr

section

variable (p : Prog) (m : Micro) (s : State)

@[simp] theorem afterPosition_cs : (afterPosition p m s).cs = true := rfl
@[simp] theorem afterPosition_opv : (afterPosition p m s).opv = s.opv := by simp [afterPosition]
@[simp] theorem afterPosition_op : (afterPosition p m s).op = s.op := by simp [afterPosition]
@[simp] theorem afterPosition_seq : (afterPosition p m s).seq = s.seq := by simp [afterPosition]
@[simp] theorem afterPosition_rx : (afterPosition p m s).rx = m.rxAfter s := by
  simp [afterPosition, store, Micro.rxAfter]
@[simp] theorem afterPosition_fault : (afterPosition p m s).fault = s.fault := by simp [afterPosition]
@[simp] theorem afterPosition_result : (afterPosition p m s).result = s.result := by simp [afterPosition]
@[simp] theorem afterPosition_trace :
    (afterPosition p m s).trace = s.trace ++ (.csLow :: xfersFrom s 0 (m.act.tx s) ++ [.csHigh]) := by
  simp [afterPosition]
@[simp] theorem afterPosition_btePhase : (afterPosition p m s).btePhase = (startOp p s).btePhase := rfl
@[simp] theorem afterPosition_lifecycle : (afterPosition p m s).lifecycle = (startOp p s).lifecycle := rfl
@[simp] theorem afterPosition_cfg : (afterPosition p m s).cfg = s.cfg := by simp [afterPosition]
@[simp] theorem afterPosition_hostIn : (afterPosition p m s).hostIn = s.hostIn := by simp [afterPosition]
@[simp] theorem afterPosition_resetIn : (afterPosition p m s).resetIn = s.resetIn := by simp [afterPosition]
@[simp] theorem afterPosition_link : (afterPosition p m s).link = s.link.tail := by simp [afterPosition]
@[simp] theorem afterPosition_draws : (afterPosition p m s).draws = s.draws + 1 := by simp [afterPosition]
@[simp] theorem afterPosition_timer : (afterPosition p m s).timer = s.timer := by simp [afterPosition]
@[simp] theorem afterPosition_timerIn : (afterPosition p m s).timerIn = s.timerIn := by simp [afterPosition]

end

/-! ### What every step of an operation does to the ports, the trace and `FAULT` -/

section

variable {i : Instr} {s t : State}

/-- A step of an operation leaves `OP`, the configuration, the host port and the reset input. -/
theorem OpStep.keeps (h : OpStep i s t) :
    t.op = s.op ∧ t.cfg = s.cfg ∧ t.hostIn = s.hostIn ∧ t.resetIn = s.resetIn := by
  cases h <;> simp

/-- It uses no answer of the link and takes no fault; or one without taking a fault; or one with an error, and then the
operation is over. -/
theorem OpStep.link_cases (h : OpStep i s t) :
    (t.link = s.link ∧ t.draws = s.draws ∧ t.fault = s.fault) ∨
    (t.link = s.link.tail ∧ t.draws = s.draws + 1 ∧ t.fault = s.fault) ∨
    (t.link = s.link.tail ∧ t.draws = s.draws + 1 ∧ s.answer.err ≠ none ∧ t.opv = false) := by
  cases h with
  | requests | delayEnds | delayGoesOn | empty => simp
  | failed hdue hpos herr => simp [herr]
  | sent => simp

/-- It moves the timer's list on only while a delay is pending. -/
theorem OpStep.timerIn_cases (h : OpStep i s t) :
    t.timerIn = s.timerIn ∨ (t.timerIn = s.timerIn.tail ∧ s.timer ≠ none) := by
  cases h with
  | delayEnds hdue htimer | delayGoesOn hdue htimer => exact .inr ⟨rfl, htimer⟩
  | requests | empty | failed | sent => simp

/-- It only appends to the trace. -/
theorem OpStep.trace_extends (h : OpStep i s t) : s.trace <+: t.trace := by
  cases h <;> simp

end

/-! ### The step of the machine -/

/-- While the reset input reads inactive the block runs, with the reading used up. -/
theorem step_eq_runStep {s : State} (h : s.resetIn.headD false = false) :
    step s = runStep (!s.resetIn.isEmpty) { s with resetIn := s.resetIn.tail } := by
  unfold step
  split
  next hr =>
    cases s
    cases hr
    rfl
  next r hr => simp [hr] at h
  next r hr => simp [hr]

/-- A running block goes on with its operation. -/
theorem step_eq_exec {s : State} (hr : s.resetIn.headD false = false) (hf : s.fault = false) (ho : s.opv = true) :
    step s = exec s.op { s with resetIn := s.resetIn.tail } := by
  simp [step_eq_runStep hr, runStep, hf, ho]

/-- An idle block looks at the host port. -/
theorem step_eq_takeOperation {s : State} (hr : s.resetIn.headD false = false) (hf : s.fault = false)
    (ho : s.opv = false) : step s = takeOperation { s with resetIn := s.resetIn.tail } := by
  simp [step_eq_runStep hr, runStep, hf, ho]

theorem takeOperation_nil {s : State} (h : s.hostIn = []) : takeOperation s = .next s := by simp [takeOperation, h]

/-- An idle block runs the operation its host bytes decode to, from the state in which it is latched. -/
theorem takeOperation_done {s : State} {i : Instr} {rest : List Byte} (h : decode s.hostIn = .done i rest) :
    takeOperation s = exec i (s.present i rest) := by
  unfold takeOperation
  split
  next hnil =>
    rw [hnil] at h
    cases h
  next b bs hcons => rw [← hcons, h]

theorem takeOperation_rejected {s : State} {b : Byte} {bs : List Byte} {e : DecodeError} (hs : s.hostIn = b :: bs)
    (h : decode (b :: bs) = .rejected e) : takeOperation s = .refused (.notAnOperation e) := by
  simp [takeOperation, hs, h]

/-- `s` with operation `i` latched at position `k`, the host bytes `rest` left, and a reading of the reset input used:
the state whose operation a step carries on. -/
def State.latched (i : Instr) (k : Nat) (rest : List Byte) (s : State) : State :=
  { s with opv := true, op := i, seq := k, hostIn := rest, resetIn := s.resetIn.tail }

/-- The step of the machine, in three cases: a reset; waiting; or a step of an operation, the running one or the one the
host presents, which starts. -/
theorem step_inv {s t : State} (h : step s = .next t) :
    (∃ r, s.resetIn = true :: r ∧ t = resetBlock { s with resetIn := r }) ∨
    (s.resetIn.headD false = false ∧ t = { s with resetIn := s.resetIn.tail }) ∨
    (s.resetIn.headD false = false ∧ s.fault = false ∧ ∃ i k rest, exec i (s.latched i k rest) = .next t ∧
      (s.opv = true ∧ i = s.op ∧ k = s.seq ∧ rest = s.hostIn ∨
       s.opv = false ∧ k = 0 ∧ decode s.hostIn = .done i rest)) := by
  obtain ⟨r, hr, rfl⟩ | ⟨r, hr, -, rfl⟩ | ⟨hr, hf, ⟨-, -, rfl⟩ | ⟨ho, hexec⟩ | ⟨i, rest, ho, hd, hexec⟩⟩ := step_cases h
  · exact .inl ⟨r, hr, rfl⟩
  · exact .inr (.inl (by simp [hr]))
  · exact .inr (.inl ⟨hr, rfl⟩)
  · refine .inr (.inr ⟨hr, hf, s.op, s.seq, s.hostIn, ?_, .inl ⟨ho, rfl, rfl, rfl⟩⟩)
    have hs : s.latched s.op s.seq s.hostIn = { s with resetIn := s.resetIn.tail } := by
      rw [State.latched, ← ho]
    rw [hs, hexec]
  · exact .inr (.inr ⟨hr, hf, i, 0, rest, hexec, .inr ⟨ho, rfl, hd⟩⟩)

end Sys2Proof.Machine

namespace Sys2Proof.Claim

open Sys2Proof Machine

/-- Settles O1: the reset state, read off. -/
theorem resetGivesTheSpecsValues : Obligations.ResetGivesTheSpecsValues :=
  fun _ => ⟨rfl, rfl, rfl, rfl, rfl, rfl, rfl, rfl, rfl, rfl, rfl⟩

/-- Settles O2: the step is `resetBlock`. -/
theorem resetInputResetsFromEveryState : Obligations.ResetInputResetsFromEveryState :=
  fun _ _ h => ⟨_, step_reset h, rfl, rfl, rfl, rfl, rfl, rfl, rfl, rfl, rfl, rfl, rfl, rfl, rfl, rfl, rfl, rfl, rfl⟩

/-- Settles O3: an idle block takes the operation its bytes decode to. -/
theorem stepRunsTheDecodedOperation : Obligations.StepRunsTheDecodedOperation := by
  intro s i rest hreset hfault hopv hdecode
  exact (step_eq_takeOperation hreset hfault hopv).trans (takeOperation_done hdecode)

/-- Settles O4: a running block goes on. -/
theorem stepGoesOnWithTheRunningOperation : Obligations.StepGoesOnWithTheRunningOperation := by
  rintro s i hreset ⟨hopv, rfl, hfault, -, -⟩
  exact step_eq_exec hreset hfault hopv

/-- Settles O5: with no host bytes an idle block takes nothing. -/
theorem idleBlockWaits : Obligations.IdleBlockWaits := by
  intro s hreset hfault hopv hhost
  exact (step_eq_takeOperation hreset hfault hopv).trans (takeOperation_nil hhost)

/-- Settles O6: a faulted block waits while readings of the reset input are left. -/
theorem faultedBlockOnlyWaitsForReset : Obligations.FaultedBlockOnlyWaitsForReset :=
  fun _ hfault => ⟨fun hreset => by simp [step, hreset, runStep, hfault],
    fun _ hreset => by simp [step, hreset, runStep, hfault]⟩

/-- Settles O12: no reserved opcode byte is in the decoder's table, and an idle block looks at the decoder. -/
theorem reservedOpcodesAreRefused : Obligations.ReservedOpcodesAreRefused := by
  intro op bs hop
  have hdecode := decode_reserved bs hop
  refine ⟨hdecode, fun s hreset hfault hopv hhost => ?_⟩
  exact (step_eq_takeOperation hreset hfault hopv).trans (takeOperation_rejected hhost hdecode)

/-- Settles O7: only the step that latches an operation takes host bytes, and what it decodes encodes to them. -/
theorem hostBytesAreTakenOnlyWhenIdle : Obligations.HostBytesAreTakenOnlyWhenIdle := by
  intro s t hstep hhost
  obtain ⟨r, -, rfl⟩ | ⟨-, rfl⟩ | ⟨hreset, hfault, i, k, rest, hexec, hop⟩ := step_inv hstep
  · exact absurd rfl hhost
  · exact absurd rfl hhost
  · obtain ⟨-, h⟩ := opStep_of_exec hexec
    obtain ⟨hi, -, hrest, -⟩ := h.keeps
    obtain ⟨-, -, -, rfl⟩ | ⟨hopv, -, hdecode⟩ := hop
    · exact absurd hrest hhost
    · obtain ⟨-, hword⟩ := encodeOfDecodeIsTheWord _ _ _ hdecode
      rw [hi, hrest]
      exact ⟨hopv, hfault, hreset, hdecode, hword⟩

/-- Settles O51: a reset keeps the configuration and the ports; waiting uses a reading; the rest are steps of an
operation. -/
theorem stepFramesConfigurationAndTrace : Obligations.StepFramesConfigurationAndTrace := by
  intro s t hstep
  obtain ⟨r, hr, rfl⟩ | ⟨-, rfl⟩ | ⟨-, -, i, k, rest, hexec, -⟩ := step_inv hstep
  · simp [hr]
  · simp
  · obtain ⟨-, h⟩ := opStep_of_exec hexec
    obtain ⟨-, hcfg, -, hresetIn⟩ := h.keeps
    refine ⟨hcfg, ?_, hresetIn, h.timerIn_cases, fun _ => h.trace_extends⟩
    obtain ⟨hlink, hdraws, -⟩ | ⟨hlink, hdraws, -⟩ | ⟨hlink, hdraws, -⟩ := h.link_cases
    · exact .inl ⟨hlink, hdraws⟩
    · exact .inr ⟨hlink, hdraws⟩
    · exact .inr ⟨hlink, hdraws⟩

/-- Settles O52: only reset leaves a fault, and a step that takes one used an answer with an error. -/
theorem faultFlagIsStickyAndOnlyFromErrors : Obligations.FaultFlagIsStickyAndOnlyFromErrors := by
  intro s t hstep
  obtain ⟨r, hr, rfl⟩ | ⟨-, rfl⟩ | ⟨-, hs, i, k, rest, hexec, -⟩ := step_inv hstep
  · exact ⟨fun _ _ => by simp [hr], fun _ ht => by cases ht⟩
  · exact ⟨fun hs ht => by simp [hs] at ht, fun hs ht => by simp [hs] at ht⟩
  · refine ⟨fun h => by simp [hs] at h, fun _ ht => ?_⟩
    obtain ⟨-, h⟩ := opStep_of_exec hexec
    obtain ⟨-, -, hf⟩ | ⟨-, -, hf⟩ | ⟨-, hdraws, herr, hopv⟩ := h.link_cases
    · exact absurd (ht.symm.trans hf) (by simp [State.latched, hs])
    · exact absurd (ht.symm.trans hf) (by simp [State.latched, hs])
    · exact ⟨herr, hdraws, hopv⟩

end Sys2Proof.Claim
end

section
/-! PROOFS. `INIT_DISP`: the positions of its expansion, its two polls, its delay, and the writes of steps 3 to 12
(R143). -/

namespace Sys2Proof.Machine

open Sys2Proof

/-! ### Ghost updates behind the last position -/

theorem Prog.pos_map_mark (gs : List Mark) (k : Nat) : Prog.pos (gs.map .mark) k = none := by
  induction gs with
  | nil => exact Prog.pos_nil k
  | cons g gs ih => exact (Prog.pos_mark g _ k).trans ih

theorem Prog.marks_map_mark_zero (gs : List Mark) : Prog.marks (gs.map .mark) 0 = gs := by
  induction gs with
  | nil => rfl
  | cons g gs ih => exact congrArg (g :: ·) ih

theorem Prog.size_map_mark (gs : List Mark) : Prog.size (gs.map .mark) = 0 :=
  Nat.le_zero.mp ((Prog.pos_eq_none _ 0).mp (Prog.pos_map_mark gs 0))

theorem Prog.pos_append_marks (p : Prog) (gs : List Mark) (k : Nat) :
    Prog.pos (p ++ gs.map .mark) k = p.pos k := by
  rw [Prog.pos_append, Prog.pos_map_mark]
  split_ifs with h
  · rfl
  · exact ((Prog.pos_eq_none p k).mpr (Nat.le_of_not_lt h)).symm

/-- Ghost updates behind positions that have none happen where they end. -/
theorem Prog.marks_append_marks {p : Prog} (hp : ∀ k, p.marks k = []) (gs : List Mark) (k : Nat) :
    Prog.marks (p ++ gs.map .mark) k = if k = p.size then gs else [] := by
  rw [Prog.marks_append, hp]
  rcases Nat.lt_trichotomy k p.size with hk | rfl | hk
  · rw [if_pos hk, if_neg hk.ne]
  · simp [Prog.marks_map_mark_zero]
  · have hpast : Prog.size (gs.map .mark) < k - p.size := by
      rw [Prog.size_map_mark]
      omega
    rw [if_neg (by omega), if_neg hk.ne', if_neg hk.ne', Prog.marks_eq_nil_of_size_lt hpast]

/-- A position of a row of write frames does nothing but send its frame. -/
theorem Prog.Writes.eq_of_pos {p : Prog} {fs : List (List Byte)} (h : p.Writes fs) {k : Nat} {m : Micro}
    (hpos : p.pos k = some m) : ∃ a : Act, m = { act := a } := by
  have hlt : k < fs.length := by
    rw [← h.size_eq, ← Prog.pos_isSome, hpos]
    rfl
  obtain ⟨a, ha, -, -⟩ := h.exists_pos (List.getElem?_eq_getElem hlt)
  exact ⟨a, Option.some.inj (hpos.symm.trans ha)⟩

end Sys2Proof.Machine

namespace Sys2Proof.Claim

open Sys2Proof Machine Operands

section

variable {i : Instr} {s : State} {p : Prog}

/-- A position followed at once by another, with no ghost update between, in an operation that may delay. -/
theorem frameStep_started_goOn (m : Micro) (hrun : Running i s) (hexp : expansion s.cfg i = p) (hdue : p.due s = none)
    (hstart : startOp p s = s) (hpos : p.pos s.seq = some m) (hnext : (p.pos (s.seq + 1)).isSome = true)
    (hmarks : p.marks (s.seq + 1) = []) (hmove : m.ctl.next (store m (s.rxByte 1) s).rx = .fwd 1) :
    FrameStep i s (m.act.tx s) fun u => goOn (s.seq + 1) (store m (s.rxByte 1) u) := by
  refine frameStep_of_started m hrun hexp hdue hstart hpos ?_
  rw [hmove]
  exact arrive_eq_goOn _ _ hnext hmarks

end

/-! ### The expansion -/

section

variable (c : Cfg)

/-- The lists of steps 4 to 12, in order. -/
def stepWrites : Prog :=
  cfgStep c.steps.backPorch ++ cfgStep c.steps.frontPorch ++ cfgStep c.steps.mainImageWidth ++
    cfgStep c.steps.activeWindow ++ cfgStep c.steps.canvasWidth ++ cfgStep c.steps.pixelFormat ++
    cfgStep c.steps.syscfg ++ cfgStep c.steps.syncPolarity ++ cfgStep c.steps.displayCtrl

/-- The writes of steps 3 to 12. -/
def bringUpWrites : Prog := progSetDisplaySize c c.display.width c.display.height ++ stepWrites c

/-- The ghost updates behind the last write: the toggles of `SET_DISPLAY_CTRL`, then `Configured`. -/
def bringUpMarks : List Mark :=
  ((lastWrite c.regs.dispCtrl c.steps.displayCtrl).map Mark.dispCtrl).toList ++ [.configured]

/-- The poll of the SDRAM control register (R141). -/
def sdramPoll : Prog :=
  pollrDelayed c.wire.ph c.regs.sdramCtrl c.sdram.doneMask c.sdram.doneLevel c.sdram.pollDelayMs

/-- The status read of the readiness poll (R140). -/
def readyRead : Micro where
  act := .stsr c.wire.ph
  ctl := .poll c.status.readyMask c.status.readyLevel (.fwd 1) (.back 0)

/-- Every position of `INIT_DISP` behind the readiness poll. -/
def bringUpBody : Prog := sdramWrites c ++ (sdramPoll c ++ bringUpWrites c)

theorem bringUpWrites_writes : (bringUpWrites c).Writes (bringUpFrames c) :=
  ((wr8_writes _ _).append (wr16_writes _ _)).append <|
    (cfgStep_writes _).append (cfgStep_writes _) |>.append (cfgStep_writes _) |>.append (cfgStep_writes _)
      |>.append (cfgStep_writes _) |>.append (cfgStep_writes _) |>.append (cfgStep_writes _)
      |>.append (cfgStep_writes _) |>.append (cfgStep_writes _)

theorem bringUpFrames_length_pos : 0 < (bringUpFrames c).length := by simp [bringUpFrames, sizeFrames, wr8Frames]

theorem progInitDisp_eq : progInitDisp c =
    .micro (readyRead c) :: .mark .sdramInitializing :: (bringUpBody c ++ (bringUpMarks c).map .mark) := by
  simp only [progInitDisp, progWaitReady, polls, readyRead, progInitMem_eq, bringUpBody, sdramPoll, bringUpWrites,
    stepWrites, bringUpMarks, progSetBackPorch, progSetFrontPorch, progSetMainImageWidth, progSetActiveWindow,
    progSetCanvasWidth, progSetPixelFormat, progSetSyscfg, progSetSyncPolarity, progSetDisplayCtrl,
    List.append_assoc, List.cons_append, List.nil_append]
  cases lastWrite c.regs.dispCtrl c.steps.displayCtrl <;> rfl

theorem bringUpBody_marks (k : Nat) : (bringUpBody c).marks k = [] :=
  (sdramWrites_writes c).marks_append_eq_nil
    (fun j => by simp [Prog.marks_append, sdramPoll, pollrDelayed_marks, (bringUpWrites_writes c).marks_eq_nil]) k

theorem bringUpBody_size :
    (bringUpBody c).size = (sdramFrames c).length + 2 + (bringUpFrames c).length := by
  have hpoll : Prog.size (sdramPoll c) = 2 := rfl
  rw [bringUpBody, Prog.size_append, Prog.size_append, (sdramWrites_writes c).size_eq,
    (bringUpWrites_writes c).size_eq, hpoll, Nat.add_assoc]

/-! ### Its positions and ghost updates -/

theorem progInitDisp_pos_succ (j : Nat) : (progInitDisp c).pos (j + 1) = (bringUpBody c).pos j := by
  rw [progInitDisp_eq, Prog.pos_micro_succ, Prog.pos_mark, Prog.pos_append_marks]

theorem progInitDisp_pos_write {n : Nat} {tx : List Byte} (h : (sdramFrames c)[n]? = some tx) :
    ∃ a : Act, (progInitDisp c).pos (n + 1) = some { act := a } ∧ a.reads = false ∧ ∀ s, a.tx s = tx := by
  obtain ⟨hlt, -⟩ := List.getElem?_eq_some_iff.mp h
  rw [progInitDisp_pos_succ, bringUpBody, (sdramWrites_writes c).pos_append_left _ hlt]
  exact (sdramWrites_writes c).exists_pos h

theorem progInitDisp_pos_poll {j : Nat} (hj : j < 2) :
    (progInitDisp c).pos ((sdramFrames c).length + 1 + j) = (sdramPoll c).pos j := by
  have hpoll : Prog.size (sdramPoll c) = 2 := rfl
  rw [Nat.add_right_comm, progInitDisp_pos_succ, bringUpBody, (sdramWrites_writes c).pos_append_right,
    Prog.pos_append, hpoll, if_pos hj]

theorem progInitDisp_pos_bringUp (n : Nat) :
    (progInitDisp c).pos ((sdramFrames c).length + 3 + n) = (bringUpWrites c).pos n := by
  have hpoll : Prog.size (sdramPoll c) = 2 := rfl
  have hindex : (sdramFrames c).length + 3 + n = (sdramFrames c).length + (2 + n) + 1 := by omega
  rw [hindex, progInitDisp_pos_succ, bringUpBody, (sdramWrites_writes c).pos_append_right, Prog.pos_append, hpoll,
    if_neg (by omega), Nat.add_sub_cancel_left]

theorem progInitDisp_marks_zero : (progInitDisp c).marks 0 = [] := rfl

theorem progInitDisp_marks_one : (progInitDisp c).marks 1 = [.sdramInitializing] := by
  rw [progInitDisp_eq, Prog.marks_micro_succ, Prog.marks_mark_zero, Prog.marks_append_marks (bringUpBody_marks c),
    bringUpBody_size, if_neg (by omega)]

theorem progInitDisp_marks_later (j : Nat) : (progInitDisp c).marks (j + 2) =
    if j + 2 = (sdramFrames c).length + 3 + (bringUpFrames c).length then bringUpMarks c else [] := by
  rw [progInitDisp_eq, Prog.marks_micro_succ, Prog.marks_mark_succ, Prog.marks_append_marks (bringUpBody_marks c),
    bringUpBody_size]
  exact if_congr (by omega) rfl rfl

theorem progInitDisp_size : (progInitDisp c).size = (sdramFrames c).length + 3 + (bringUpFrames c).length := by
  rw [progInitDisp_eq, Prog.size_micro, Prog.size_mark, Prog.size_append, Prog.size_map_mark, bringUpBody_size]
  omega

/-- Its positions: the readiness poll, the read of the SDRAM poll, and others that do nothing but send their frame. -/
theorem progInitDisp_pos_cases {k : Nat} {m : Micro} (hpos : (progInitDisp c).pos k = some m) :
    (k = 0 ∧ m = readyRead c) ∨ (k = (sdramFrames c).length + 2 ∧ m = sdramRead c) ∨ ∃ a : Act, m = { act := a } := by
  obtain _ | j := k
  · exact .inl ⟨rfl, (Option.some.inj hpos).symm⟩
  refine .inr ?_
  rcases Nat.lt_or_ge j (sdramFrames c).length with hj | hj
  · rw [progInitDisp_pos_succ, bringUpBody, (sdramWrites_writes c).pos_append_left _ hj] at hpos
    exact .inr ((sdramWrites_writes c).eq_of_pos hpos)
  · obtain ⟨l, rfl⟩ := Nat.exists_eq_add_of_le hj
    rw [progInitDisp_pos_succ, bringUpBody, (sdramWrites_writes c).pos_append_right] at hpos
    obtain _ | _ | n := l
    · exact .inr ⟨_, (Option.some.inj hpos).symm⟩
    · exact .inl ⟨rfl, (Option.some.inj hpos).symm⟩
    · exact .inr ((bringUpWrites_writes c).eq_of_pos hpos)

/-- The one position behind which a delay can be due is the read of the SDRAM poll. -/
theorem progInitDisp_delays {k : Nat} {m : Micro} {mask : Byte} {t : Bool} {hit : Move} {ms n : Nat}
    (hpos : (progInitDisp c).pos k = some m) (hctl : m.ctl = .poll mask t hit (.wait ms n)) :
    k = (sdramFrames c).length + 2 ∧ m = sdramRead c := by
  obtain ⟨-, rfl⟩ | h | ⟨a, rfl⟩ := progInitDisp_pos_cases c hpos
  · cases hctl
  · exact h
  · cases hctl

end

/-! ### The delay -/

section

variable {s : State}

/-- A delay is due only behind an SDRAM attempt that failed. -/
theorem progInitDisp_due_eq_none (h : s.seq = (sdramFrames s.cfg).length + 3 →
    bitIs s.rx s.cfg.sdram.doneMask s.cfg.sdram.doneLevel) : (progInitDisp s.cfg).due s = none := by
  cases hd : (progInitDisp s.cfg).due s with
  | none => rfl
  | some d =>
    obtain ⟨ms, n⟩ := d
    obtain ⟨k, m, mask, t, hit, hseq, hpos, hctl, hmiss⟩ := Prog.due_eq_some.mp hd
    obtain ⟨rfl, rfl⟩ := progInitDisp_delays s.cfg hpos hctl
    have hbit := (pollHit_iff_bitIs _ _ _).mpr (h hseq)
    cases hctl
    rw [hbit] at hmiss
    cases hmiss

theorem progInitDisp_pos_read (c : Cfg) : (progInitDisp c).pos ((sdramFrames c).length + 2) = some (sdramRead c) :=
  progInitDisp_pos_poll c (j := 1) (by decide)

theorem progInitDisp_pos_address (c : Cfg) :
    (progInitDisp c).pos ((sdramFrames c).length + 1) = some { act := .cmdw c.regs.sdramCtrl } :=
  progInitDisp_pos_poll c (j := 0) (by decide)

theorem progInitDisp_due_eq_some (hseq : s.seq = (sdramFrames s.cfg).length + 3)
    (hbit : ¬ bitIs s.rx s.cfg.sdram.doneMask s.cfg.sdram.doneLevel) :
    (progInitDisp s.cfg).due s = some (s.cfg.sdram.pollDelayMs, 2) := by
  refine Prog.due_eq_some.mpr ⟨_, _, _, _, _, hseq, progInitDisp_pos_read s.cfg, rfl, ?_⟩
  simpa using mt (pollHit_iff_bitIs _ _ _).mp hbit

/-! ### The steps -/

theorem startOp_initDisp (s : State) : startOp (progInitDisp s.cfg) s = s :=
  startOp_plain s (progInitDisp_marks_zero s.cfg)

/-- A position of `INIT_DISP` between the readiness poll and the last one goes on to the next one. -/
theorem frameStep_initDisp_goOn (m : Micro) (hrun : Running .initDisp s) (hdue : (progInitDisp s.cfg).due s = none)
    (hpos : (progInitDisp s.cfg).pos s.seq = some m) (hstart : s.seq ≠ 0)
    (hseq : s.seq + 1 < (sdramFrames s.cfg).length + 3 + (bringUpFrames s.cfg).length)
    (hmove : m.ctl.next (store m (s.rxByte 1) s).rx = .fwd 1) :
    FrameStep .initDisp s (m.act.tx s) fun u => goOn (s.seq + 1) (store m (s.rxByte 1) u) := by
  refine frameStep_started_goOn m hrun rfl hdue (startOp_initDisp s) hpos ?_ ?_ hmove
  · rw [Prog.pos_isSome]
    exact hseq.trans_eq (progInitDisp_size s.cfg).symm
  · obtain ⟨j, hj⟩ := Nat.exists_eq_succ_of_ne_zero hstart
    change (progInitDisp s.cfg).marks (s.seq + 1) = []
    rw [hj, progInitDisp_marks_later, if_neg (by omega)]

/-- The readiness poll that succeeds goes on to the SDRAM writes, and `lifecycle` is `SdramInitializing`. -/
theorem frameStep_ready_hit (hrun : Running .initDisp s) (hseq : s.seq = 0)
    (hbit : bitIs (s.rxByte 1) s.cfg.status.readyMask s.cfg.status.readyLevel) :
    FrameStep .initDisp s [0x40#8, s.cfg.wire.ph] fun u =>
      goOn 1 { u with rx := s.rxByte 1, lifecycle := .sdramInitializing } := by
  refine frameStep_of_started (p := progInitDisp s.cfg) (readyRead s.cfg) hrun rfl (Prog.due_start hseq)
    (startOp_initDisp s) (by rw [hseq]; rfl) ?_
  have hlen := bringUpFrames_length_pos s.cfg
  have hmove : (readyRead s.cfg).ctl.next (store (readyRead s.cfg) (s.rxByte 1) s).rx = .fwd 1 :=
    next_poll_of_bitIs _ _ hbit
  rw [hmove, move, store_seq, afterFrame_seq, hseq, Nat.zero_add,
    arrive_inside _ _ (by rw [progInitDisp_size]; omega), progInitDisp_marks_one]
  rfl

/-- The readiness poll that fails polls again. -/
theorem frameStep_ready_miss (hrun : Running .initDisp s) (hseq : s.seq = 0)
    (hbit : ¬ bitIs (s.rxByte 1) s.cfg.status.readyMask s.cfg.status.readyLevel) :
    FrameStep .initDisp s [0x40#8, s.cfg.wire.ph] fun u => goOn 0 { u with rx := s.rxByte 1 } := by
  refine frameStep_of_started (p := progInitDisp s.cfg) (readyRead s.cfg) hrun rfl (Prog.due_start hseq)
    (startOp_initDisp s) (by rw [hseq]; rfl) ?_
  have hmove : (readyRead s.cfg).ctl.next (store (readyRead s.cfg) (s.rxByte 1) s).rx = .back 0 :=
    next_poll_of_not_bitIs _ _ hbit
  rw [hmove, move, store_seq, afterFrame_seq, hseq]
  rfl

/-- The read of an SDRAM attempt goes on, whatever the byte read: a hit to the next position, a miss to where the delay
is due. -/
theorem frameStep_initDisp_sdramRead (hrun : Running .initDisp s) (hseq : s.seq = (sdramFrames s.cfg).length + 2) :
    FrameStep .initDisp s [0xC0#8, s.cfg.wire.ph] fun u =>
      goOn ((sdramFrames s.cfg).length + 3) { u with rx := s.rxByte 1 } := by
  have hlen := bringUpFrames_length_pos s.cfg
  have hdue : (progInitDisp s.cfg).due s = none := progInitDisp_due_eq_none fun h => by omega
  have hpos := progInitDisp_pos_read s.cfg
  rw [← hseq] at hpos
  by_cases hbit : bitIs (s.rxByte 1) s.cfg.sdram.doneMask s.cfg.sdram.doneLevel
  · have hstep := frameStep_initDisp_goOn (sdramRead s.cfg) hrun hdue hpos (by omega) (by omega)
      (next_poll_of_bitIs _ _ hbit)
    rw [hseq] at hstep
    exact hstep
  · refine frameStep_of_started (p := progInitDisp s.cfg) (sdramRead s.cfg) hrun rfl hdue (startOp_initDisp s) hpos ?_
    have hmove : (sdramRead s.cfg).ctl.next (store (sdramRead s.cfg) (s.rxByte 1) s).rx =
        .wait s.cfg.sdram.pollDelayMs 2 := next_poll_of_not_bitIs _ _ hbit
    rw [hmove, move, store_seq, afterFrame_seq, hseq]
    rfl

/-- A write of steps 3 to 12: it goes on, or after the last one the operation completes and the ghost updates at its end
happen. -/
theorem frameStep_bringUp {n : Nat} {tx : List Byte} (hrun : Running .initDisp s)
    (hseq : s.seq = (sdramFrames s.cfg).length + 3 + n) (htx : (bringUpFrames s.cfg)[n]? = some tx)
    (hbit : n = 0 → bitIs s.rx s.cfg.sdram.doneMask s.cfg.sdram.doneLevel) :
    FrameStep .initDisp s tx fun u =>
      if n + 1 = (bringUpFrames s.cfg).length then applyMarks (bringUpMarks s.cfg) (done (s.seq + 1) .ok u)
      else goOn (s.seq + 1) u := by
  obtain ⟨a, hpos, hreads, hsends⟩ := (bringUpWrites_writes s.cfg).exists_pos htx
  obtain ⟨hlt, -⟩ := List.getElem?_eq_some_iff.mp htx
  have hdue : (progInitDisp s.cfg).due s = none := progInitDisp_due_eq_none fun h => hbit (by omega)
  rw [← progInitDisp_pos_bringUp, ← hseq] at hpos
  by_cases hlast : n + 1 = (bringUpFrames s.cfg).length
  · have hend : (progInitDisp s.cfg).pos (s.seq + 1) = none := by
      rw [Prog.pos_eq_none, progInitDisp_size]
      omega
    have hmarks : (progInitDisp s.cfg).marks (s.seq + 1) = bringUpMarks s.cfg := by
      rw [hseq, Nat.add_right_comm _ 3 n, progInitDisp_marks_later, if_pos (by omega)]
    have hstep := frameStep_of_started (p := progInitDisp s.cfg) { act := a } (ok := fun u =>
      applyMarks (bringUpMarks s.cfg) (done (s.seq + 1) .ok u)) hrun rfl hdue (startOp_initDisp s) hpos ?_
    · simpa only [hsends, if_pos hlast] using hstep
    · simp only [store_write hreads, Ctl.next, move, afterFrame_seq]
      rw [arrive_eq_done _ _ hend, hmarks]
      rfl
  · have hstep := frameStep_initDisp_goOn { act := a } hrun hdue hpos (by omega) (by omega) rfl
    simpa only [hsends, store_write hreads, if_neg hlast] using hstep

end

/-- The ghost updates at the end: the toggles, and `Configured` (R143, R153). -/
theorem applyMarks_bringUpMarks {c : Cfg} (h : WritesDispCtrl c) {u : State} (hu : u.cfg = c) :
    applyMarks (bringUpMarks c) u = ctrlToggles c { u with lifecycle := .configured } := by
  rw [bringUpMarks, applyMarks, List.foldl_append]
  change applyMark (applyMarks _ u) .configured = _
  rw [applyMarks_dispCtrl h hu, ctrlToggles, ctrlToggles]
  split <;> rfl

/-- Settles O26: each position by its step; at the end the toggles and `Configured`, in either order. -/
theorem bringUpWritesInOrderAndConfigures : Obligations.BringUpWritesInOrderAndConfigures := by
  intro s
  refine ⟨⟨rfl, fun _ => rfl⟩, ?_⟩
  rintro hrun k rfl
  have hlen := bringUpFrames_length_pos s.cfg
  refine ⟨frameStep_ready_hit hrun, frameStep_ready_miss hrun, fun n tx hseq htx => ?_, fun hseq => ?_,
    frameStep_initDisp_sdramRead hrun, fun hseq hbit => ?_, fun hctrl n tx hseq htx hbit => ?_⟩
  · obtain ⟨a, hpos, hreads, hsends⟩ := progInitDisp_pos_write s.cfg htx
    obtain ⟨hlt, -⟩ := List.getElem?_eq_some_iff.mp htx
    rw [Nat.add_comm, ← hseq] at hpos
    have hstep := frameStep_initDisp_goOn { act := a } hrun (progInitDisp_due_eq_none fun h => by omega) hpos (by omega)
      (by omega) rfl
    simpa only [hsends, store_write hreads] using hstep
  · have hpos := progInitDisp_pos_address s.cfg
    rw [← hseq] at hpos
    have hstep := frameStep_initDisp_goOn _ hrun (progInitDisp_due_eq_none fun h => by omega) hpos (by omega) (by omega)
      rfl
    rw [hseq] at hstep
    exact hstep
  · exact delayStep_of_due hrun rfl (progInitDisp_due_eq_some hseq hbit) hseq
  · have hstep := frameStep_bringUp hrun hseq htx hbit
    have hmarks := applyMarks_bringUpMarks hctrl (u := done (s.seq + 1) .ok (afterFrame tx s)) rfl
    obtain ⟨hok, herr⟩ := hstep
    exact ⟨fun h => by simpa only [hmarks] using hok h, herr⟩

end Sys2Proof.Claim
end

section
/-! PROOFS. What every expansion is made of: plain reads and writes, and a few lines that belong to single operations;
from it, for every operation, its frames, moves, polls and delays (R84, R85, R106, R124, R141). -/

namespace Sys2Proof.Machine

open Sys2Proof Operands Claim

/-! ### The lines of an expansion -/

/-- A burst has 1 to 255 payload bytes (R85). -/
def Act.legal : Act → Bool
  | .datwb ds => 1 ≤ ds.length && ds.length ≤ 255
  | _ => true

/-- A plain read or write that goes on to the next position, or a ghost update of a BTE writer or of
`SET_DISPLAY_CTRL`. -/
def Item.ordinary : Item → Bool
  | .micro { act := .datwRmw _ _, .. } => false
  | .micro { act := a, save := false, ctl := .go (.fwd 1) } => a.legal
  | .mark .bteField | .mark .bteSetup | .mark (.dispCtrl _) => true
  | _ => false

/-- The read of a register poll (R124). -/
def pollRead (c : Cfg) (m : Byte) (t : Bool) : Micro where
  act := .datr c.wire.ph
  ctl := .poll m t (.fwd 1) (.back 1)

/-- The read of a status poll (R125). -/
def statusRead (c : Cfg) (m : Byte) (t : Bool) : Micro where
  act := .stsr c.wire.ph
  ctl := .poll m t (.fwd 1) (.back 0)

/-- The read whose byte is kept in `TMP` (R126, R127). -/
def keptRead (c : Cfg) : Micro where
  act := .datr c.wire.ph
  save := true

/-- The lines of an operation's expansion that are not ordinary. -/
def specialLines (c : Cfg) : Instr → List Item
  | .pollr _ m t => [.micro (pollRead c m t)]
  | .polls m t => [.micro (statusRead c m t)]
  | .waitReady => [.micro (readyRead c)]
  | .initMem => [.mark .sdramInitializing, .micro (sdramRead c)]
  | .initDisp => [.micro (readyRead c), .mark .sdramInitializing, .micro (sdramRead c), .mark .configured]
  | .enableDisplay e => [.micro (keptRead c), plain (.datwRmw c.display.onMask e), .mark (.dispOn e)]
  | .enableTestPattern e => [.micro (keptRead c), plain (.datwRmw c.display.colorBarMask e), .mark (.testOn e)]
  | .enableTextMode e => [.micro (keptRead c), plain (.datwRmw c.display.textModeMask e), .mark (.textOn e)]
  | .writeText _ =>
      [.micro (statusRead c c.status.wfifoMask c.status.wfifoEmptyLevel),
       .micro (statusRead c c.status.busyMask (!c.status.busyLevel))]
  | .getTextCursorY => [.micro (keptRead c)]
  | .bteStart => [.micro (keptRead c), plain (.datwRmw c.bte.enableMask true), .mark .bteStart]
  | .fill _ _ _ => [.micro (keptRead c), plain (.datwRmw c.bte.enableMask true), .mark .bteStart]
  | .bteWait => [.micro (pollRead c c.bte.busyMask (!c.bte.busyLevel)), .mark .bteWait]
  | .frameCommandWrite _ | .frameStatusRead _ | .frameDataWrite _ | .frameDataRead _ | .frameDataBurst _
  | .cmdw _ | .stsr | .datw _ | .datr | .datwb _ | .wr8 _ _ | .wr16 _ _ | .wr32 _ _ | .rd8 _
  | .setDisplaySize _ _ | .setBackPorch | .setFrontPorch | .setMainImageWidth | .setActiveWindow | .setCanvasWidth
  | .setPixelFormat | .setSyscfg | .setSyncPolarity | .setDisplayCtrl | .setTextCursorX _ | .setTextCursorY _
  | .bteDestAddr _ | .bteDestPos _ _ | .bteColorDepth _ _ _ | .bteAlpha _ | .bteDestWidth _ | .bteWidth _
  | .bteHeight _ | .setFgColor _ _ _ | .bteSetup _ _ => []

theorem cfgStep_ordinary (l : List RegWrite) : ∀ x ∈ cfgStep l, x.ordinary = true := by
  intro x hx
  obtain ⟨w, -, hw⟩ := List.mem_flatMap.mp hx
  have hall : (memWrite w).all Item.ordinary = true := by cases w <;> rfl
  exact List.all_eq_true.mp hall x hw

theorem ctrlMarks_ordinary (c : Cfg) :
    ∀ x ∈ ((lastWrite c.regs.dispCtrl c.steps.displayCtrl).map fun v => Item.mark (.dispCtrl v)).toList,
      x.ordinary = true := by
  cases lastWrite c.regs.dispCtrl c.steps.displayCtrl <;> simp [Item.ordinary]

theorem progBteColorDepth_ordinary (c : Cfg) (s0 s1 d : Byte) :
    ∀ x ∈ progBteColorDepth c s0 s1 d, x.ordinary = true := by
  unfold progBteColorDepth
  cases c.bte.colr s0 s1 d <;> simp [wr8, plain, Item.ordinary, Act.legal]

theorem progBteSetup_ordinary (c : Cfg) (rop opc : Byte) : ∀ x ∈ progBteSetup c rop opc, x.ordinary = true := by
  unfold progBteSetup
  cases c.bte.setup rop opc <;> simp [wr8, plain, Item.ordinary, Act.legal]

theorem chunks_length {txt ds : List Byte} (h : ds ∈ chunks txt) : 1 ≤ ds.length ∧ ds.length ≤ 16 := by
  obtain ⟨k, hk⟩ := List.mem_iff_getElem?.mp h
  rw [chunks_getElem?] at hk
  split_ifs at hk with hlt
  obtain rfl := Option.some.inj hk
  simp only [List.length_take, List.length_drop]
  omega

theorem writeText_lines (c : Cfg) (txt : List Byte) :
    ∀ x ∈ progWriteText c txt, x.ordinary = true ∨ x ∈ specialLines c (.writeText txt) := by
  intro x hx
  obtain ⟨ds, hds, hx⟩ := List.mem_flatMap.mp hx
  obtain ⟨hmin, hmax⟩ := chunks_length hds
  have hlegal : (plain (.datwb ds)).ordinary = true := by
    simp [plain, Item.ordinary, Act.legal, hmin, Nat.le_trans hmax (by decide : 16 ≤ 255)]
  simp only [textChunk, polls, List.cons_append, List.nil_append, List.mem_cons, List.not_mem_nil, or_false] at hx
  obtain rfl | rfl | rfl | rfl := hx
  · exact .inr (.head _)
  · exact .inl rfl
  · exact .inl hlegal
  · exact .inr (.tail _ (.head _))

theorem initMem_lines (c : Cfg) :
    ∀ x ∈ progInitMem c, x.ordinary = true ∨ x ∈ [Item.mark .sdramInitializing, .micro (sdramRead c)] := by
  have hlist := cfgStep_ordinary c.sdram.writes
  simp only [progInitMem, List.forall_mem_append, wr8, pollrDelayed]
  refine ⟨⟨⟨?_, fun x hx => .inl (hlist x hx)⟩, ?_⟩, ?_⟩ <;> simp [plain, Item.ordinary, Act.legal, sdramRead]

theorem rmwb_lines (c : Cfg) (reg m : Byte) (e : Bool) (g : Mark) :
    ∀ x ∈ rmwb c.wire.ph reg m e ++ [.mark g],
      x.ordinary = true ∨ x ∈ [Item.micro (keptRead c), plain (.datwRmw m e), .mark g] := by
  simp [rmwb, plain, Item.ordinary, Act.legal, keptRead]

theorem initDisp_lines (c : Cfg) : ∀ x ∈ progInitDisp c, x.ordinary = true ∨ x ∈ specialLines c .initDisp := by
  have hmem (x : Item) (hx : x ∈ progInitMem c) : x.ordinary = true ∨ x ∈ specialLines c .initDisp :=
    (initMem_lines c x hx).imp id fun h => .tail _ (List.mem_append_left [.mark .configured] h)
  have hlist (l : List RegWrite) (x : Item) (hx : x ∈ cfgStep l) : x.ordinary = true ∨ x ∈ specialLines c .initDisp :=
    .inl (cfgStep_ordinary l x hx)
  have hsize : ∀ x ∈ progSetDisplaySize c c.display.width c.display.height,
      x.ordinary = true ∨ x ∈ specialLines c .initDisp := fun x hx => .inl (List.all_eq_true.mp (by rfl) x hx)
  have hctrl : ∀ x ∈ progSetDisplayCtrl c, x.ordinary = true ∨ x ∈ specialLines c .initDisp :=
    List.forall_mem_append.mpr ⟨hlist _, fun x hx => .inl (ctrlMarks_ordinary c x hx)⟩
  have hready : Item.micro (readyRead c) ∈ specialLines c .initDisp := .head _
  have hend : Item.mark .configured ∈ specialLines c .initDisp := .tail _ (.tail _ (.tail _ (.head _)))
  simp only [progInitDisp, List.forall_mem_append, List.forall_mem_singleton]
  exact ⟨⟨⟨⟨⟨⟨⟨⟨⟨⟨⟨⟨List.forall_mem_singleton.mpr (.inr hready), hmem⟩, hsize⟩, hlist _⟩, hlist _⟩, hlist _⟩, hlist _⟩,
    hlist _⟩, hlist _⟩, hlist _⟩, hlist _⟩, hctrl⟩, .inr hend⟩

theorem fill_lines (c : Cfg) (r g b : Byte) :
    ∀ x ∈ progFill c r g b, x.ordinary = true ∨
      x ∈ [Item.micro (keptRead c), plain (.datwRmw c.bte.enableMask true), .mark .bteStart] := by
  have hrow {p : Prog} (hp : p.all Item.ordinary = true) (x : Item) (hx : x ∈ p) : x.ordinary = true ∨
      x ∈ [Item.micro (keptRead c), plain (.datwRmw c.bte.enableMask true), .mark .bteStart] :=
    .inl (List.all_eq_true.mp hp x hx)
  simp only [progFill, List.forall_mem_append]
  exact ⟨⟨⟨⟨⟨⟨⟨⟨⟨hrow rfl, hrow rfl⟩, fun x hx => .inl (progBteColorDepth_ordinary c _ _ _ x hx)⟩, hrow rfl⟩, hrow rfl⟩,
    hrow rfl⟩, hrow rfl⟩, hrow rfl⟩, fun x hx => .inl (progBteSetup_ordinary c _ _ x hx)⟩, rmwb_lines c _ _ _ _⟩

section

variable {c : Cfg} {i : Instr}

theorem lines_of_ordinary {p : Prog} (hexp : expansion c i = p) (hp : p.all Item.ordinary = true) :
    ∀ x ∈ expansion c i, x.ordinary = true ∨ x ∈ specialLines c i := by
  rw [hexp]
  exact fun x hx => .inl (List.all_eq_true.mp hp x hx)

/-- Every line of a well-formed operation's expansion is ordinary or one of its special ones. -/
theorem line_cases (h : WellFormed.check c i = none) :
    ∀ x ∈ expansion c i, x.ordinary = true ∨ x ∈ specialLines c i := by
  cases i
  case frameDataBurst ds | datwb ds =>
    exact lines_of_ordinary (p := [plain (.datwb ds)]) rfl
      (by simpa [plain, Item.ordinary, Act.legal] using holds_of_need h)
  case setBackPorch | setFrontPorch | setMainImageWidth | setActiveWindow | setCanvasWidth | setPixelFormat |
      setSyscfg | setSyncPolarity => exact lines_of_ordinary rfl (List.all_eq_true.mpr (cfgStep_ordinary _))
  case setDisplayCtrl =>
    exact lines_of_ordinary rfl
      (List.all_eq_true.mpr (List.forall_mem_append.mpr ⟨cfgStep_ordinary _, ctrlMarks_ordinary c⟩))
  case bteColorDepth s0 s1 d =>
    exact lines_of_ordinary rfl (List.all_eq_true.mpr (progBteColorDepth_ordinary c s0 s1 d))
  case bteSetup rop opc => exact lines_of_ordinary rfl (List.all_eq_true.mpr (progBteSetup_ordinary c rop opc))
  case writeText txt => exact writeText_lines c txt
  case initMem => exact initMem_lines c
  case initDisp => exact initDisp_lines c
  case fill r g b => exact fill_lines c r g b
  case pollr a m t => exact List.forall_mem_cons.mpr ⟨.inl rfl, List.forall_mem_singleton.mpr (.inr (.head _))⟩
  case polls | waitReady => exact List.forall_mem_singleton.mpr (.inr (.head _))
  case bteWait =>
    exact List.forall_mem_cons.mpr ⟨.inl rfl, List.forall_mem_cons.mpr ⟨.inr (.head _),
      List.forall_mem_singleton.mpr (.inr (.tail _ (.head _)))⟩⟩
  case enableDisplay | enableTestPattern | enableTextMode | bteStart => exact rmwb_lines c _ _ _ _
  case getTextCursorY =>
    exact List.forall_mem_cons.mpr ⟨.inl rfl, List.forall_mem_cons.mpr ⟨.inr (.head _),
      List.forall_mem_cons.mpr ⟨.inl rfl, List.forall_mem_singleton.mpr (.inl rfl)⟩⟩⟩
  all_goals exact lines_of_ordinary rfl rfl

end

/-! ### What stands at a position -/

/-- The kinds of lines that are not ordinary: polls, the SDRAM poll, the read and the write of a read-modify-write,
ghost updates. -/
inductive Item.Special (c : Cfg) : Item → Prop
  | pollRead (mask : Byte) (t : Bool) : Special c (.micro (pollRead c mask t))
  | statusRead (mask : Byte) (t : Bool) : Special c (.micro (statusRead c mask t))
  | sdramRead : Special c (.micro (sdramRead c))
  | keptRead : Special c (.micro (keptRead c))
  | rmwWrite (mask : Byte) (e : Bool) : Special c (plain (.datwRmw mask e))
  | mark (g : Mark) : Special c (.mark g)

theorem readyRead_eq (c : Cfg) : readyRead c = statusRead c c.status.readyMask c.status.readyLevel := rfl

theorem special_of_mem {c : Cfg} {i : Instr} : ∀ x ∈ specialLines c i, x.Special c := by
  cases i <;> simp [specialLines, readyRead_eq, Item.Special.pollRead, Item.Special.statusRead, Item.Special.sdramRead,
    Item.Special.keptRead, Item.Special.rmwWrite, Item.Special.mark]

/-- An ordinary position is a legal frame that does not use `TMP`, and goes on to the next one. -/
theorem ordinary_micro {m : Micro} (h : (Item.micro m).ordinary = true) :
    m.act.legal = true ∧ m.save = false ∧ m.ctl = .go (.fwd 1) ∧ ∀ mask e, m.act ≠ .datwRmw mask e := by
  unfold Item.ordinary at h
  split at h
  next => cases h
  next a hrmw heq =>
    cases heq
    exact ⟨h, rfl, rfl, fun mask e hact => hrmw mask e hact⟩
  next heq => cases heq
  next heq => cases heq
  next heq => cases heq
  next => cases h

section

variable {c : Cfg} {i : Instr} {k : Nat} {m : Micro}

theorem position_cases (hcheck : WellFormed.check c i = none) (hpos : (expansion c i).pos k = some m) :
    (m.act.legal = true ∧ m.save = false ∧ m.ctl = .go (.fwd 1) ∧ ∀ mask e, m.act ≠ .datwRmw mask e) ∨
    (Item.micro m ∈ specialLines c i ∧ Item.Special c (.micro m)) :=
  (line_cases hcheck _ (Prog.mem_of_pos hpos)).imp ordinary_micro fun h => ⟨h, special_of_mem _ h⟩

theorem legal_of_pos (hcheck : WellFormed.check c i = none) (hpos : (expansion c i).pos k = some m) :
    m.act.legal = true := by
  obtain ⟨h, -⟩ | ⟨-, h⟩ := position_cases hcheck hpos
  · exact h
  · cases h <;> rfl

/-- The move that follows a position: on by one; or, where the byte just read misses, back by at most one, or on to a
delay. -/
theorem next_cases (hcheck : WellFormed.check c i = none) (hpos : (expansion c i).pos k = some m) (b : Byte) :
    m.ctl.next b = .fwd 1 ∨
    (∃ mask t n, (m = pollRead c mask t ∧ n = 1 ∨ m = statusRead c mask t ∧ n = 0) ∧ ¬ bitIs b mask t ∧
      m.ctl.next b = .back n) ∨
    (m = sdramRead c ∧ ¬ bitIs b c.sdram.doneMask c.sdram.doneLevel ∧
      m.ctl.next b = .wait c.sdram.pollDelayMs 2) := by
  obtain ⟨-, -, hgo, -⟩ | ⟨-, h⟩ := position_cases hcheck hpos
  · exact .inl (by rw [hgo]; rfl)
  cases h with
  | pollRead mask t =>
    by_cases hbit : bitIs b mask t
    · exact .inl (next_poll_of_bitIs _ _ hbit)
    · exact .inr (.inl ⟨mask, t, 1, .inl ⟨rfl, rfl⟩, hbit, next_poll_of_not_bitIs _ _ hbit⟩)
  | statusRead mask t =>
    by_cases hbit : bitIs b mask t
    · exact .inl (next_poll_of_bitIs _ _ hbit)
    · exact .inr (.inl ⟨mask, t, 0, .inr ⟨rfl, rfl⟩, hbit, next_poll_of_not_bitIs _ _ hbit⟩)
  | sdramRead =>
    by_cases hbit : bitIs b c.sdram.doneMask c.sdram.doneLevel
    · exact .inl (next_poll_of_bitIs _ _ hbit)
    · exact .inr (.inr ⟨rfl, hbit, next_poll_of_not_bitIs _ _ hbit⟩)
  | keptRead => exact .inl rfl
  | rmwWrite => exact .inl rfl

end

/-- A position of a well-formed operation sends a frame of the wire encoding (R75, R106). -/
theorem Act.legalFrame_tx {a : Act} (h : a.legal = true) (s : State) : Safety.legalFrame (a.tx s) = true := by
  cases a
  case datwb ds =>
    simp only [Act.legal, Bool.and_eq_true, decide_eq_true_eq] at h
    obtain ⟨hmin, hmax⟩ := h
    obtain _ | ⟨b0, _ | ⟨b1, bs⟩⟩ := ds
    · cases hmin
    · rfl
    · simp only [List.length_cons] at hmax
      simp [Act.tx, Safety.legalFrame, decodeFrame]
      omega
  all_goals rfl

/-! ### Delays -/

theorem sdramRead_mem {c : Cfg} {i : Instr} (h : Item.micro (sdramRead c) ∈ specialLines c i) :
    i = .initMem ∨ i = .initDisp := by
  cases i
  case initMem => exact .inl rfl
  case initDisp => exact .inr rfl
  all_goals simp [specialLines, sdramRead, pollRead, statusRead, readyRead, keptRead, plain] at h

/-- Where a delay is due: behind the read of the SDRAM poll that missed, of `SDRAM_POLL_DELAY_MS`, and leading back to
the read's address (R141). -/
theorem due_cases {i : Instr} {s : State} {ms n : Nat} (hcheck : WellFormed.check s.cfg i = none)
    (hdue : (expansion s.cfg i).due s = some (ms, n)) :
    (i = .initMem ∨ i = .initDisp) ∧ ms = s.cfg.sdram.pollDelayMs ∧ n = 2 ∧ 2 ≤ s.seq := by
  obtain ⟨k, m, mask, t, hit, hseq, hpos, hctl, -⟩ := Prog.due_eq_some.mp hdue
  have hread : m = sdramRead s.cfg ∧ (i = .initMem ∨ i = .initDisp) := by
    obtain ⟨-, -, hgo, -⟩ | ⟨hmem, h⟩ := position_cases hcheck hpos
    · rw [hgo] at hctl
      cases hctl
    · cases h with
      | sdramRead => exact ⟨rfl, sdramRead_mem hmem⟩
      | pollRead | statusRead | keptRead | rmwWrite => cases hctl
  obtain ⟨rfl, hop⟩ := hread
  have hdelay : ms = s.cfg.sdram.pollDelayMs ∧ n = 2 := by
    simp only [sdramRead, Ctl.poll.injEq, Move.wait.injEq] at hctl
    obtain ⟨-, -, -, hms, hn⟩ := hctl
    exact ⟨hms.symm, hn.symm⟩
  obtain ⟨hms, hn⟩ := hdelay
  refine ⟨hop, hms, hn, ?_⟩
  by_contra hearly
  obtain rfl | rfl := hop
  · have hnone : (progInitMem s.cfg).due s = none := progInitMem_due_eq_none (by omega)
    exact absurd (hnone.symm.trans hdue) (by simp)
  · have hnone : (progInitDisp s.cfg).due s = none := progInitDisp_due_eq_none fun h => by omega
    exact absurd (hnone.symm.trans hdue) (by simp)

/-! ### The start -/

theorem progSetDisplayCtrl_marks_zero (c : Cfg) : (progSetDisplayCtrl c).marks 0 = [] := by
  rw [progSetDisplayCtrl]
  cases hlist : c.steps.displayCtrl with
  | nil => rfl
  | cons w l => cases w <;> rfl

/-- `INIT_MEM` alone has a ghost update before its first position (R141). -/
theorem expansion_marks_zero (c : Cfg) {i : Instr} (h : i ≠ .initMem) : (expansion c i).marks 0 = [] := by
  cases i
  case initMem => exact absurd rfl h
  case setDisplayCtrl => exact progSetDisplayCtrl_marks_zero c
  case setBackPorch | setFrontPorch | setMainImageWidth | setActiveWindow | setCanvasWidth | setPixelFormat |
      setSyscfg | setSyncPolarity => exact (cfgStep_writes _).marks_eq_nil 0
  case writeText txt => exact progWriteText_marks c txt 0
  case bteColorDepth s0 s1 d =>
    rw [expansion, progBteColorDepth]
    cases c.bte.colr s0 s1 d <;> rfl
  case bteSetup rop opc =>
    rw [expansion, progBteSetup]
    cases c.bte.setup rop opc <;> rfl
  all_goals rfl

/-- What happens at the start: nothing, but for `INIT_MEM` (R141, log entry 17). -/
theorem startOp_expansion (i : Instr) (s : State) :
    startOp (expansion s.cfg i) s = s ∨
    i = .initMem ∧ s.seq = 0 ∧ startOp (expansion s.cfg i) s = { s with lifecycle := .sdramInitializing } := by
  by_cases hmem : i = .initMem
  · subst hmem
    by_cases hseq : s.seq = 0
    · refine .inr ⟨rfl, hseq, ?_⟩
      rw [startOp, if_pos hseq, expansion, progInitMem_marks_zero]
      rfl
    · exact .inl (startOp_later _ hseq)
  · exact .inl (startOp_plain s (expansion_marks_zero s.cfg hmem))

/-! ### Polls without a delay -/

section

variable {c : Cfg} {i : Instr} {mask : Byte} {t : Bool}

theorem pollRead_mem (h : Item.micro (pollRead c mask t) ∈ specialLines c i) :
    (∃ a, i = .pollr a mask t) ∨ (i = .bteWait ∧ mask = c.bte.busyMask ∧ t = !c.bte.busyLevel) := by
  cases i
  all_goals simp [specialLines, sdramRead, pollRead, statusRead, readyRead, keptRead, plain] at h
  case pollr a m t =>
    obtain ⟨rfl, rfl⟩ := h
    exact .inl ⟨a, rfl⟩
  case bteWait => exact .inr ⟨rfl, h⟩

theorem statusRead_mem (h : Item.micro (statusRead c mask t) ∈ specialLines c i) :
    i = .polls mask t ∨
    ((i = .waitReady ∨ i = .initDisp) ∧ mask = c.status.readyMask ∧ t = c.status.readyLevel) ∨
    ∃ txt, i = .writeText txt := by
  cases i
  all_goals simp [specialLines, sdramRead, pollRead, statusRead, readyRead, keptRead, plain] at h
  case polls m t =>
    obtain ⟨rfl, rfl⟩ := h
    exact .inl rfl
  case waitReady => exact .inr (.inl ⟨.inl rfl, h⟩)
  case initDisp => exact .inr (.inl ⟨.inr rfl, h⟩)
  case writeText txt => exact .inr (.inr ⟨txt, rfl⟩)

end

theorem statusRead_inj {c : Cfg} {m m' : Byte} {t t' : Bool} (h : statusRead c m t = statusRead c m' t') :
    m' = m ∧ t' = t := by
  simp only [statusRead, Micro.mk.injEq, Ctl.poll.injEq, true_and, and_true] at h
  exact ⟨h.1.symm, h.2.symm⟩

/-- The status polls of a text: the first and the last position of each chunk (R159). -/
theorem progWriteText_polls {c : Cfg} {txt : List Byte} {k : Nat} {mask : Byte} {t : Bool}
    (h : (progWriteText c txt).pos k = some (statusRead c mask t)) :
    (k % 4 = 0 ∧ mask = c.status.wfifoMask ∧ t = c.status.wfifoEmptyLevel) ∨
    (k % 4 = 3 ∧ mask = c.status.busyMask ∧ t = !c.status.busyLevel) := by
  have hlt := Nat.mod_lt k (by decide : 0 < 4)
  rw [← Nat.div_add_mod k 4, progWriteText, pos_flatMap_textChunk c _ _ hlt, Option.bind_eq_some_iff] at h
  obtain ⟨ds, -, h⟩ := h
  generalize k % 4 = j at h hlt
  obtain _ | _ | _ | _ | j := j
  · exact .inl ⟨rfl, statusRead_inj (Option.some.inj h)⟩
  · cases h
  · cases h
  · exact .inr ⟨rfl, statusRead_inj (Option.some.inj h)⟩
  · omega

/-- A position whose poll goes back is the poll of `PollMissed`. -/
theorem pollMissed_of_pos {c : Cfg} {i : Instr} {k : Nat} {m : Micro} {mask : Byte} {t : Bool} {b : Byte}
    (hcheck : WellFormed.check c i = none) (hpos : (expansion c i).pos k = some m)
    (hm : m = pollRead c mask t ∨ m = statusRead c mask t) (hbit : ¬ bitIs b mask t) : PollMissed c i k b := by
  have hmem : Item.micro m ∈ specialLines c i := by
    obtain ⟨-, -, hgo, -⟩ | ⟨h, -⟩ := position_cases hcheck hpos
    · obtain rfl | rfl := hm <;> cases hgo
    · exact h
  obtain rfl | rfl := hm
  · obtain ⟨a, rfl⟩ | ⟨rfl, rfl, rfl⟩ := pollRead_mem hmem
    · obtain _ | _ | k := k
      · cases hpos
      · exact .inl ⟨a, mask, t, rfl, rfl, hbit⟩
      · cases hpos
    · obtain _ | _ | k := k
      · cases hpos
      · exact .inr (.inr (.inr (.inl ⟨rfl, rfl, hbit⟩)))
      · cases hpos
  · obtain rfl | ⟨rfl | rfl, rfl, rfl⟩ | ⟨txt, rfl⟩ := statusRead_mem hmem
    · obtain _ | k := k
      · exact .inr (.inl ⟨mask, t, rfl, rfl, hbit⟩)
      · cases hpos
    · obtain _ | k := k
      · exact .inr (.inr (.inl ⟨.inl rfl, rfl, hbit⟩))
      · cases hpos
    · obtain ⟨rfl, -⟩ | ⟨-, h⟩ | ⟨a, h⟩ := progInitDisp_pos_cases c hpos
      · exact .inr (.inr (.inl ⟨.inr rfl, rfl, hbit⟩))
      · cases h
      · cases h
    · refine .inr (.inr (.inr (.inr ⟨txt, rfl, ?_⟩)))
      obtain ⟨hk, rfl, rfl⟩ | ⟨hk, rfl, rfl⟩ := progWriteText_polls hpos
      · exact .inl ⟨hk, hbit⟩
      · exact .inr ⟨hk, hbit⟩

end Sys2Proof.Machine
end

section
/-! PROOFS. What one step of an operation adds to the trace, where it takes the fault, how it moves `seq`, and when it
delays (R8, R15, R19, R100, R211, R212, R222). -/

namespace Sys2Proof.Machine

open Sys2Proof Claim Safety

section

variable {i : Instr} {s : State}

/-- While a delay is due the next step is no frame. -/
theorem nextFrame_due {d : Nat × Nat} (hdue : (expansion s.cfg i).due s = some d) : nextFrame i s = none := by
  simp [nextFrame, hdue]

theorem nextFrame_empty (hdue : (expansion s.cfg i).due s = none) (hpos : (expansion s.cfg i).pos s.seq = none) :
    nextFrame i s = none := by
  simp [nextFrame, hdue, hpos]

theorem nextFrame_pos {m : Micro} (hdue : (expansion s.cfg i).due s = none)
    (hpos : (expansion s.cfg i).pos s.seq = some m) : nextFrame i s = some (m.act.tx s) := by
  simp [nextFrame, hdue, hpos]

end

/-- The start of an operation changes no ghost state but the lifecycle, and that at the start of `INIT_MEM` alone. -/
theorem startOp_ghost (i : Instr) (s : State) :
    (startOp (expansion s.cfg i) s).btePhase = s.btePhase ∧ (startOp (expansion s.cfg i) s).dispOn = s.dispOn ∧
    (startOp (expansion s.cfg i) s).testOn = s.testOn ∧ (startOp (expansion s.cfg i) s).textOn = s.textOn ∧
    ((startOp (expansion s.cfg i) s).lifecycle = s.lifecycle ∨
      i = .initMem ∧ s.seq = 0 ∧ (startOp (expansion s.cfg i) s).lifecycle = .sdramInitializing) := by
  obtain h | ⟨hi, hseq, h⟩ := startOp_expansion i s
  · rw [h]
    exact ⟨rfl, rfl, rfl, rfl, .inl rfl⟩
  · rw [h]
    exact ⟨rfl, rfl, rfl, rfl, .inr ⟨hi, hseq, rfl⟩⟩

/-- A faulted block with no further reading of the reset input has no step (R17, log entry 10). -/
theorem step_faulted {s : State} (hreset : s.resetIn = []) (hfault : s.fault = true) :
    step s = .fault .faultLatched := by
  obtain ⟨h, -⟩ := faultedBlockOnlyWaitsForReset s hfault
  exact h hreset

/-! ### Delays in the trace -/

@[simp] theorem delays_append (es fs : List Event) : delays (es ++ fs) = delays es ++ delays fs := by
  induction es with
  | nil => rfl
  | cons e es ih => cases e <;> simp [delays, ih]

@[simp] theorem delays_xfersFrom (s : State) (k : Nat) (tx : List Byte) : delays (xfersFrom s k tx) = [] := by
  induction tx generalizing k with
  | nil => rfl
  | cons b tx ih => simp [delays, ih]

@[simp] theorem delays_take_xfersFrom (s : State) (k n : Nat) (tx : List Byte) :
    delays ((xfersFrom s k tx).take n) = [] := by
  have h := delays_xfersFrom s k tx
  rw [← List.take_append_drop n (xfersFrom s k tx), delays_append, List.append_eq_nil_iff] at h
  exact h.1

/-! ### `seq` -/

section

variable (p : Prog) (res : State → Result) (s : State)

@[simp] theorem move_fwd_seq (n : Nat) : (move p res (.fwd n) s).seq = s.seq + n := by
  rw [move, arrive]
  split <;> simp

@[simp] theorem move_back (n : Nat) : move p res (.back n) s = { s with seq := s.seq - n } := rfl

@[simp] theorem move_wait (ms n : Nat) : move p res (.wait ms n) s = { s with seq := s.seq + 1 } := rfl

end

end Sys2Proof.Machine

namespace Sys2Proof.Claim

open Sys2Proof Machine

/-- Settles O40: of the cases of a step only the failed frame takes the fault, and only `INIT_MEM` has a ghost update
before its first frame. -/
theorem faultIsTakenExactlyOnAnError : Obligations.FaultIsTakenExactlyOnAnError := by
  rintro i s t ⟨-, hop, hfault, -, hcheck⟩ hexec
  obtain ⟨-, h⟩ := opStep_of_exec hexec
  cases h with
  | requests | delayEnds | delayGoesOn | empty => exact .inl (by simp [hfault])
  | sent hdue hpos herr => exact .inr (.inl (by simp [hfault, herr]))
  | @failed m e hdue hpos herr =>
    subst hop
    obtain ⟨hphase, hdisp, htest, htext, hlife⟩ := startOp_ghost s.op s
    have htrace : (frameFailed e (m.act.tx s) (startOp (expansion s.cfg s.op) s)).trace =
        s.trace ++ (.csLow :: (xfersFrom s 0 (m.act.tx s)).take e.sent) ++ [.faulted] := by simp
    exact .inr (.inr ⟨e, m.act.tx s, by simp, by simp, herr, Act.legalFrame_tx (legal_of_pos hcheck hpos) s,
      nextFrame_pos hdue hpos, htrace, rfl, by simp, by simp, rfl, rfl, by simp, by simp, by simp, by simp, hphase,
      hdisp, htest, htext, hlife, step_faulted rfl rfl⟩)

/-- Settles O41: the window of the next frame, whole or broken; a delay request; or nothing. -/
theorem oneStepIsOneFrame : Obligations.OneStepIsOneFrame := by
  rintro i s t ⟨-, -, -, -, hcheck⟩ hexec
  obtain ⟨-, h⟩ := opStep_of_exec hexec
  cases h with
  | @requests ms _ hdue => exact .inr ⟨nextFrame_due hdue, .inr ⟨ms, rfl⟩⟩
  | delayEnds hdue => exact .inr ⟨nextFrame_due hdue, .inl rfl⟩
  | delayGoesOn hdue => exact .inr ⟨nextFrame_due hdue, .inl rfl⟩
  | empty hdue hpos => exact .inr ⟨nextFrame_empty hdue hpos, .inl (by simp)⟩
  | @failed m e hdue hpos =>
    exact .inl ⟨_, nextFrame_pos hdue hpos, Act.legalFrame_tx (legal_of_pos hcheck hpos) s, .inr ⟨e.sent, by simp⟩⟩
  | sent hdue hpos =>
    exact .inl ⟨_, nextFrame_pos hdue hpos, Act.legalFrame_tx (legal_of_pos hcheck hpos) s, .inl (by simp)⟩

/-- Settles O42: only the request of a delay that is due adds a delay to the trace. -/
theorem onlySdramInitialisationDelays : Obligations.OnlySdramInitialisationDelays := by
  intro i s t hexec hdelays
  obtain ⟨hcheck, h⟩ := opStep_of_exec hexec
  cases h with
  | requests hdue =>
    obtain ⟨hop, rfl, -, -⟩ := due_cases hcheck hdue
    exact ⟨hop, by simp [Safety.delays]⟩
  | delayEnds | delayGoesOn => exact absurd rfl hdelays
  | empty | failed | sent => exact absurd (by simp [Safety.delays]) hdelays

/-- Settles O43: how the move behind a frame, and the end of a delay, change `seq`. -/
theorem seqCountsWhatIsCompleted : Obligations.SeqCountsWhatIsCompleted := by
  rintro i s t ⟨hopv, -, -, -, hcheck⟩ hexec
  obtain ⟨-, h⟩ := opStep_of_exec hexec
  cases h with
  | requests hdue =>
    have hnone := nextFrame_due hdue
    exact ⟨fun h => absurd hnone h, fun h => absurd hnone h, fun _ => .inl rfl⟩
  | delayGoesOn hdue =>
    have hnone := nextFrame_due hdue
    exact ⟨fun h => absurd hnone h, fun h => absurd hnone h, fun _ => .inl rfl⟩
  | empty hdue hpos =>
    have hnone := nextFrame_empty hdue hpos
    exact ⟨fun h => absurd hnone h, fun h => absurd hnone h, fun _ => .inl (by simp)⟩
  | delayEnds hdue htimer =>
    have hnone := nextFrame_due hdue
    obtain ⟨hop, -, rfl, hseq⟩ := due_cases hcheck hdue
    refine ⟨fun h => absurd hnone h, fun h => absurd hnone h, fun _ => .inr ⟨?_, htimer, rfl, rfl, hop⟩⟩
    exact Nat.sub_add_cancel hseq
  | failed hdue hpos herr =>
    have hsome := nextFrame_pos hdue hpos
    exact ⟨fun _ h => by simp [herr] at h, fun _ _ => by simp, fun h => by simp [hsome] at h⟩
  | @sent m hdue hpos herr =>
    have hsome := nextFrame_pos hdue hpos
    refine ⟨fun _ _ => ?_, fun _ h => absurd herr h, fun h => by simp [hsome] at h⟩
    obtain h | ⟨mask, t, n, hm, hbit, h⟩ | ⟨-, -, h⟩ := next_cases hcheck hpos (m.rxAfter s)
    · left
      simp [h]
    · right
      have hreads : m.rxAfter s = s.rxByte 1 := by obtain ⟨rfl, -⟩ | ⟨rfl, -⟩ := hm <;> rfl
      have hn : n ≤ 1 := by obtain ⟨-, rfl⟩ | ⟨-, rfl⟩ := hm <;> decide
      have hmissed := pollMissed_of_pos hcheck hpos (hm.imp And.left And.left) hbit
      rw [hreads] at hmissed
      rw [h, move_back, afterPosition_seq]
      exact ⟨Nat.sub_le _ _, by simp only; omega, by simp [hopv], by simp [hreads], hmissed⟩
    · left
      simp [h]

end Sys2Proof.Claim
end

section
/-! PROOFS. The invariant of the machine: the grammar of a frame and of a broken one, and every step's share (R11, R17,
R75, R78, R106, R222). -/

namespace Sys2Proof.Safety

open Sys2Proof Machine

/-! ### The grammar of one frame -/

theorem readTrace_append (w : Window) (es fs : List Event) :
    readTrace w (es ++ fs) = (readTrace w es).bind fun v => readTrace v fs := by
  induction es generalizing w with
  | nil => rfl
  | cons e es ih =>
    rw [List.cons_append, readTrace, readTrace]
    cases readEvent w e with
    | none => rfl
    | some v => exact ih v

/-- Inside a window the bytes sent are read one by one, however many of them went out. -/
theorem readTrace_take_xfersFrom (s : State) (k n : Nat) (sent tx : List Byte) :
    readTrace (.inside sent) ((xfersFrom s k tx).take n) = some (.inside (sent ++ tx.take n)) := by
  induction tx generalizing k n sent with
  | nil => simp [readTrace]
  | cons b tx ih =>
    cases n with
    | zero => simp [readTrace]
    | succ n => simp [readTrace, readEvent, ih]

theorem readTrace_xfersFrom (s : State) (k : Nat) (sent tx : List Byte) :
    readTrace (.inside sent) (xfersFrom s k tx) = some (.inside (sent ++ tx)) := by
  have hlen : (xfersFrom s k tx).length = tx.length := by
    induction tx generalizing k with
    | nil => rfl
    | cons b tx ih => simp [ih]
  have h := readTrace_take_xfersFrom s k tx.length sent tx
  rwa [List.take_length, ← hlen, List.take_length] at h

/-- A whole window with a legal frame leads outside again. -/
theorem readTrace_window {tx : List Byte} (h : legalFrame tx = true) (s : State) :
    readTrace .outside (.csLow :: xfersFrom s 0 tx ++ [.csHigh]) = some .outside := by
  rw [List.cons_append, readTrace, readEvent, Option.bind_some, readTrace_append, readTrace_xfersFrom]
  simp [readTrace, readEvent, h]

theorem legalPart_of_legalFrame {tx : List Byte} (h : legalFrame tx = true) : legalPart tx = true := by
  simp only [legalFrame, Bool.and_eq_true, decide_eq_true_eq] at h
  obtain ⟨hframe, hlen⟩ := h
  unfold decodeFrame at hframe
  split at hframe
  next m b =>
    split_ifs at hframe with hcmdw hstsr hdatw hdatr <;> simp_all [legalPart]
  next m b0 b1 bs =>
    split_ifs at hframe with hdatw
    · simp only [List.length_cons] at hlen
      simp [legalPart, hdatw]
      omega
    · cases hframe
  next => cases hframe

/-- A beginning of what may have gone out of a frame may have gone out of it. -/
theorem legalPart_take {tx : List Byte} (h : legalPart tx = true) (n : Nat) : legalPart (tx.take n) = true := by
  obtain _ | ⟨m, bs⟩ := tx
  · simpa using h
  obtain _ | n := n
  · rfl
  simp only [legalPart, List.take_succ_cons, Bool.and_eq_true, Bool.or_eq_true, decide_eq_true_eq,
    List.length_take] at h ⊢
  obtain ⟨⟨hmode, hshape⟩, hlen⟩ := h
  exact ⟨⟨hmode, hshape.imp (fun h => by omega) id⟩, by omega⟩

/-- A broken window ends in the fault. -/
theorem readTrace_broken {tx : List Byte} (h : legalFrame tx = true) (s : State) (n : Nat) :
    readTrace .outside (.csLow :: (xfersFrom s 0 tx).take n ++ [.faulted]) = some .dead := by
  rw [List.cons_append, readTrace, readEvent, Option.bind_some, readTrace_append, readTrace_take_xfersFrom]
  simp [readTrace, readEvent, legalPart_take (legalPart_of_legalFrame h)]

end Sys2Proof.Safety

namespace Sys2Proof.Machine

open Sys2Proof Safety

/-! ### The end of a position -/

/-- A move goes on at a position the expansion has, or completes the operation. -/
theorem move_fwd_position (p : Prog) (res : State → Result) (n : Nat) (s : State) :
    (move p res (.fwd n) s).opv = false ∨ (p.pos (s.seq + n)).isSome = true := by
  cases h : p.pos (s.seq + n) with
  | none => simp [move, arrive, h]
  | some m => simp

end Sys2Proof.Machine

namespace Sys2Proof.Claim

open Sys2Proof Machine Safety

/-- Settles O48: the reset state runs nothing, and its trace is empty. -/
theorem resetHasTheInvariant : Obligations.ResetHasTheInvariant := by
  intro c h r d l n
  exact ⟨fun _ => rfl, fun hf => (by cases hf), rfl, fun ho => (by cases ho), fun ho => (by cases ho),
    fun _ ht => (by cases ht)⟩

/-- What an operation needs of the state it steps from: the invariant's share, where it runs and nothing is faulted. -/
structure Ready (i : Instr) (s : State) : Prop where
  op : s.op = i
  opv : s.opv = true
  noFault : s.fault = false
  released : s.cs = true
  grammar : readTrace .outside s.trace = some .outside
  waiting : ∀ ms, s.timer = some ms → ∃ n, (expansion s.cfg i).due s = some (ms, n)

/-- The invariant of a state without a fault. -/
theorem inv_of_noFault {t : State} (hfault : t.fault = false) (hcs : t.cs = true)
    (hgrammar : readTrace .outside t.trace = some .outside) (hcheck : WellFormed.check t.cfg t.op = none)
    (hposition : t.opv = true →
      ((expansion t.cfg t.op).due t).isSome = true ∨ ((expansion t.cfg t.op).pos t.seq).isSome = true)
    (hwaiting : ∀ ms, t.timer = some ms → t.opv = true ∧ ∃ n, (expansion t.cfg t.op).due t = some (ms, n)) : Inv t where
  released _ := hcs
  faulted h := by simp [hfault] at h
  grammar := by rw [hgrammar, hfault]; rfl
  wellFormed _ := hcheck
  position := hposition
  waiting := hwaiting

/-- When a delay has ended, the operation stands at a position of its loop, or is due the delay again. -/
theorem position_of_delayEnded {p : Prog} {s : State} {ms n : Nat} (hdue : p.due s = some (ms, n)) {t : State}
    (hseq : t.seq = s.seq - n) (hrx : t.rx = s.rx) : (p.due t).isSome = true ∨ (p.pos t.seq).isSome = true := by
  obtain ⟨k, m, mask, tt, hit, hk, hpos, -, -⟩ := Prog.due_eq_some.mp hdue
  have hlt : k < p.size := (p.pos_isSome k).mp (by rw [hpos]; rfl)
  rcases Nat.eq_zero_or_pos n with rfl | hn
  · exact .inl (by rw [Prog.due_congr p (t := s) hseq hrx, hdue]; rfl)
  · exact .inr ((p.pos_isSome _).mpr (by omega))

/-- After a frame the operation is complete, stands at a position, or is due a delay. -/
theorem position_of_move {i : Instr} {s : State} {m : Micro} (res : State → Result)
    (hcheck : WellFormed.check s.cfg i = none) (hpos : (expansion s.cfg i).pos s.seq = some m) {t : State}
    (ht : t = move (expansion s.cfg i) res (m.ctl.next (m.rxAfter s)) (afterPosition (expansion s.cfg i) m s)) :
    t.opv = false ∨ ((expansion s.cfg i).due t).isSome = true ∨ ((expansion s.cfg i).pos t.seq).isSome = true := by
  obtain h | ⟨mask, tt, n, -, -, h⟩ | ⟨rfl, hbit, h⟩ := next_cases hcheck hpos (m.rxAfter s)
  · rw [h] at ht
    refine (move_fwd_position (expansion s.cfg i) res 1 (afterPosition (expansion s.cfg i) m s)).imp
      (fun hdone => by rw [ht, hdone]) fun hnext => .inr ?_
    rwa [ht, move_fwd_seq]
  · rw [h, move_back, afterPosition_seq] at ht
    have hlt : s.seq < (expansion s.cfg i).size := (Prog.pos_isSome _ _).mp (by rw [hpos]; rfl)
    refine .inr (.inr ?_)
    rw [ht, Prog.pos_isSome]
    exact Nat.lt_of_le_of_lt (Nat.sub_le _ _) hlt
  · rw [h, move_wait] at ht
    refine .inr (.inl (Option.isSome_iff_exists.mpr ⟨_, Prog.due_eq_some.mpr
      ⟨s.seq, sdramRead s.cfg, _, _, _, by simp [ht], hpos, rfl, ?_⟩⟩))
    simpa [ht] using mt (pollHit_iff_bitIs _ _ _).mp hbit

/-- A step of an operation gives the invariant. -/
theorem inv_of_exec {i : Instr} {s t : State} (hready : Ready i s) (hexec : exec i s = .next t) : Inv t := by
  obtain ⟨hcheck, h⟩ := opStep_of_exec hexec
  obtain ⟨rfl, hopv, hfault, hcs, hgrammar, hwaiting⟩ := hready
  have htimer (hdue : (expansion s.cfg s.op).due s = none) : s.timer = none := by
    cases ht : s.timer with
    | none => rfl
    | some ms =>
      obtain ⟨n, hn⟩ := hwaiting ms ht
      exact absurd (hn.symm.trans hdue) (by simp)
  cases h with
  | @requests ms n hdue =>
    have hdue' : (expansion s.cfg s.op).due (requestDelay ms s) = some (ms, n) :=
      (Prog.due_congr _ rfl rfl).trans hdue
    refine inv_of_noFault hfault hcs ?_ hcheck (fun _ => .inl (Option.isSome_iff_exists.mpr ⟨_, hdue'⟩))
      fun d hd => ⟨hopv, n, ?_⟩
    · simp [readTrace_append, hgrammar, readTrace, readEvent]
    · obtain rfl := Option.some.inj hd
      exact hdue'
  | @delayEnds ms n hdue =>
    exact inv_of_noFault hfault hcs hgrammar hcheck (fun _ => position_of_delayEnded hdue rfl rfl)
      fun d hd => by cases hd
  | @delayGoesOn ms n hdue =>
    have hdue' : (expansion s.cfg s.op).due { s with timerIn := s.timerIn.tail } = some (ms, n) :=
      (Prog.due_congr _ rfl rfl).trans hdue
    refine inv_of_noFault hfault hcs hgrammar hcheck (fun _ => .inl (Option.isSome_iff_exists.mpr ⟨_, hdue'⟩))
      fun d hd => ⟨hopv, ?_⟩
    obtain ⟨n', hn'⟩ := hwaiting d hd
    exact ⟨n', (Prog.due_congr _ rfl rfl).trans hn'⟩
  | empty hdue hpos =>
    exact inv_of_noFault (by simpa using hfault) (by simpa using hcs) (by simpa using hgrammar) (by simpa using hcheck)
      (fun h => by simp at h) fun d hd => by simp [htimer hdue] at hd
  | @failed m e hdue hpos =>
    have hlegal := Act.legalFrame_tx (legal_of_pos hcheck hpos) s
    exact
      { released := fun h => by simp at h
        faulted := fun _ => by simp
        grammar := by
          have hbroken := readTrace_broken hlegal s e.sent
          simp only [List.cons_append] at hbroken
          simp [readTrace_append, hgrammar, hbroken]
        wellFormed := fun h => by simp at h
        position := fun h => by simp at h
        waiting := fun d hd => by simp [htimer hdue] at hd }
  | @sent m hdue hpos =>
    have hlegal := Act.legalFrame_tx (legal_of_pos hcheck hpos) s
    have hwindow := readTrace_window hlegal s
    simp only [List.cons_append] at hwindow
    refine inv_of_noFault (by simpa using hfault) (by simp) ?_ (by simpa using hcheck) (fun hopv' => ?_)
      fun d hd => by simp [htimer hdue] at hd
    · simp [readTrace_append, hgrammar, hwindow]
    · obtain h | h := position_of_move (resultOf s.op) hcheck hpos rfl
      · rw [h] at hopv'
        cases hopv'
      · simpa using h

/-- Settles O47: waiting changes only the reset input; a reset gives the reset state; else an operation steps, the
running one or the one just latched. -/
theorem stepKeepsTheInvariant : Obligations.StepKeepsTheInvariant := by
  intro s t hinv hstep
  obtain ⟨r, -, rfl⟩ | ⟨-, rfl⟩ | ⟨-, hfault, i, k, rest, hexec, hop⟩ := step_inv hstep
  · exact resetHasTheInvariant _ _ _ _ _ _
  · exact ⟨hinv.released, hinv.faulted, hinv.grammar, hinv.wellFormed, hinv.position, hinv.waiting⟩
  · refine inv_of_exec (s := s.latched i k rest)
      ⟨rfl, rfl, hfault, hinv.released hfault, ?_, fun ms htimer => ?_⟩ hexec
    · have hgrammar := hinv.grammar
      rw [hfault] at hgrammar
      exact hgrammar
    · obtain ⟨hopv, hdue⟩ := hinv.waiting ms htimer
      obtain ⟨-, rfl, rfl, rfl⟩ | ⟨hidle, -, -⟩ := hop
      · exact hdue
      · rw [hopv] at hidle
        cases hidle

end Sys2Proof.Claim
end

section
/-! PROOFS. The ghost state: nothing the block does depends on it, and which operation moves `bte_phase` and `lifecycle`
where (R16, R143, R190, R192, R248). -/

namespace Sys2Proof.Claim

open Sys2Proof Machine Operands

/-! ### Nothing depends on the ghost state -/

section

variable {s t : State}

theorem sameButGhost_withGhost (b : BtePhase) (l : Lifecycle) (d e x : Toggle) (s : State) :
    SameButGhost s (withGhost b l d e x s) := rfl

theorem SameButGhost.exists_withGhost (h : SameButGhost s t) : ∃ b l d e x, t = withGhost b l d e x s :=
  ⟨t.btePhase, t.lifecycle, t.dispOn, t.testOn, t.textOn,
    (congrArg (withGhost t.btePhase t.lifecycle t.dispOn t.testOn t.textOn) h).symm⟩

/-- What is read off a state without its ghost state is the same in both. -/
theorem SameButGhost.congr {α : Type} (h : SameButGhost s t) (f : State → α)
    (hf : ∀ u b l d e x, f (withGhost b l d e x u) = f u := by exact fun _ _ _ _ _ _ => rfl) : f s = f t := by
  obtain ⟨b, l, d, e, x, rfl⟩ := h.exists_withGhost
  exact (hf s b l d e x).symm

theorem SameButGhost.xfersFrom (h : SameButGhost s t) (k : Nat) (tx : List Byte) :
    xfersFrom s k tx = xfersFrom t k tx := xfersFrom_congr (h.congr State.link) (h.congr State.draws) k tx

theorem SameButGhost.applyMark (h : SameButGhost s t) (g : Mark) :
    SameButGhost (applyMark s g) (applyMark t g) := by
  cases g <;> exact h

theorem SameButGhost.applyMarks (h : SameButGhost s t) (gs : List Mark) :
    SameButGhost (applyMarks gs s) (applyMarks gs t) := by
  induction gs generalizing s t with
  | nil => exact h
  | cons g gs ih => exact ih (h.applyMark g)

theorem SameButGhost.startOp (h : SameButGhost s t) (p : Prog) : SameButGhost (startOp p s) (startOp p t) := by
  have hseq : s.seq = t.seq := h.congr State.seq
  unfold Machine.startOp
  rw [hseq]
  split
  · exact h.applyMarks _
  · exact h

theorem SameButGhost.complete (h : SameButGhost s t) (i : Instr) :
    SameButGhost (complete (resultOf i) s) (complete (resultOf i) t) := by
  obtain ⟨b, l, d, e, x, rfl⟩ := h.exists_withGhost
  have hres : resultOf i (withGhost b l d e x s) = resultOf i s := resultOf_congr i rfl rfl
  rw [Machine.complete, Machine.complete, hres]
  rfl

theorem SameButGhost.goOn (h : SameButGhost s t) (k : Nat) : SameButGhost (goOn k s) (goOn k t) := by
  obtain ⟨b, l, d, e, x, rfl⟩ := h.exists_withGhost
  rfl

theorem SameButGhost.arrive (h : SameButGhost s t) (p : Prog) (i : Instr) (k : Nat) :
    SameButGhost (arrive p (resultOf i) k s) (arrive p (resultOf i) k t) := by
  unfold Machine.arrive
  cases p.pos k with
  | none => exact ((h.goOn k).applyMarks _).complete i
  | some m => exact (h.goOn k).applyMarks _

theorem SameButGhost.move (h : SameButGhost s t) (p : Prog) (i : Instr) (m : Move) :
    SameButGhost (move p (resultOf i) m s) (move p (resultOf i) m t) := by
  have hseq : s.seq = t.seq := h.congr State.seq
  cases m with
  | fwd n =>
    rw [Machine.move, Machine.move, hseq]
    exact h.arrive p i _
  | back n =>
    rw [Machine.move, Machine.move, hseq]
    exact h.goOn _
  | wait ms n =>
    rw [Machine.move, Machine.move, hseq]
    exact h.goOn _

theorem SameButGhost.frameSent (h : SameButGhost s t) (tx : List Byte) :
    SameButGhost (frameSent tx s) (frameSent tx t) := by
  rw [Machine.frameSent, Machine.frameSent, h.xfersFrom 0 tx]
  obtain ⟨b, l, d, e, x, rfl⟩ := h.exists_withGhost
  rfl

theorem SameButGhost.frameFailed (h : SameButGhost s t) (err : LinkError) (tx : List Byte) :
    SameButGhost (frameFailed err tx s) (frameFailed err tx t) := by
  rw [Machine.frameFailed, Machine.frameFailed, h.xfersFrom 0 tx]
  obtain ⟨b, l, d, e, x, rfl⟩ := h.exists_withGhost
  rfl

theorem SameButGhost.store (h : SameButGhost s t) (m : Micro) (v : Byte) :
    SameButGhost (store m v s) (store m v t) := by
  obtain ⟨b, l, d, e, x, rfl⟩ := h.exists_withGhost
  rfl

theorem SameButGhost.runFrame (h : SameButGhost s t) (p : Prog) (i : Instr) (m : Micro) :
    SameButGhost (runFrame p (resultOf i) m s) (runFrame p (resultOf i) m t) := by
  have htx : m.act.tx t = m.act.tx s := m.act.tx_congr (h.congr State.tmp).symm
  have hanswer : t.answer = s.answer := h.congr State.answer |>.symm
  have hbyte : t.rxByte 1 = s.rxByte 1 := h.congr (State.rxByte · 1) |>.symm
  rw [Machine.runFrame, Machine.runFrame, htx, hbyte]
  cases herr : s.answer.err with
  | none =>
    rw [frame_ok _ _ herr, frame_ok _ _ (hanswer ▸ herr), follow_eq_move_next, follow_eq_move_next]
    have hstored := (h.frameSent (m.act.tx s)).store m (s.rxByte 1)
    have hrx : (Machine.store m (s.rxByte 1) (Machine.frameSent (m.act.tx s) s)).rx =
        (Machine.store m (s.rxByte 1) (Machine.frameSent (m.act.tx s) t)).rx := hstored.congr State.rx
    rw [hrx]
    exact hstored.move p i _
  | some e =>
    rw [frame_err _ _ herr, frame_err _ _ (hanswer ▸ herr)]
    exact h.frameFailed e _

theorem SameButGhost.delayStep (h : SameButGhost s t) (ms n : Nat) :
    SameButGhost (delayStep ms n s) (delayStep ms n t) := by
  obtain ⟨b, l, d, e, x, rfl⟩ := h.exists_withGhost
  have htimer : (withGhost b l d e x s).timer = s.timer := rfl
  have htimerIn : (withGhost b l d e x s).timerIn = s.timerIn := rfl
  unfold Machine.delayStep timerStep
  rw [htimer, htimerIn]
  split
  · rfl
  · split <;> rfl

theorem SameButGhost.perform (h : SameButGhost s t) (i : Instr) (p : Prog) :
    Alike SameButGhost (perform i p (resultOf i) s) (perform i p (resultOf i) t) := by
  have hcfg : t.cfg = s.cfg := (h.congr State.cfg).symm
  have hseq : t.seq = s.seq := (h.congr State.seq).symm
  have hcs : (Machine.startOp p t).cs = (Machine.startOp p s).cs := ((h.startOp p).congr State.cs).symm
  have hdue : p.due t = p.due s := Prog.due_congr p hseq ((h.congr State.rx).symm)
  unfold Machine.perform runMicro
  rw [hcfg, hseq, hdue]
  cases WellFormed.check s.cfg i with
  | some c => rfl
  | none =>
    cases p.due s with
    | some d => exact h.delayStep d.1 d.2
    | none =>
      cases p.pos s.seq with
      | none => exact (h.startOp p).complete i
      | some m =>
        simp only [hcs]
        split
        · exact (h.startOp p).runFrame p i m
        · rfl

theorem SameButGhost.exec (h : SameButGhost s t) (i : Instr) : Alike SameButGhost (exec i s) (exec i t) := by
  have hcfg : t.cfg = s.cfg := (h.congr State.cfg).symm
  rw [exec_eq_perform, exec_eq_perform, hcfg]
  exact h.perform i _

theorem SameButGhost.present (h : SameButGhost s t) (i : Instr) (rest : List Byte) :
    SameButGhost (s.present i rest) (t.present i rest) := by
  obtain ⟨b, l, d, e, x, rfl⟩ := h.exists_withGhost
  rfl

theorem SameButGhost.takeOperation (h : SameButGhost s t) :
    Alike SameButGhost (takeOperation s) (takeOperation t) := by
  have hhost : t.hostIn = s.hostIn := (h.congr State.hostIn).symm
  cases hs : s.hostIn with
  | nil =>
    rw [takeOperation_nil hs, takeOperation_nil (hhost.trans hs)]
    exact h
  | cons b bs =>
    cases hd : decode (b :: bs) with
    | done i rest =>
      rw [takeOperation_done (s := s) (hs ▸ hd), takeOperation_done (s := t) ((hhost.trans hs) ▸ hd)]
      exact (h.present i rest).exec i
    | rejected err =>
      rw [takeOperation_rejected hs hd, takeOperation_rejected (hhost.trans hs) hd]
      rfl

theorem SameButGhost.runStep (h : SameButGhost s t) (w : Bool) :
    Alike SameButGhost (runStep w s) (runStep w t) := by
  unfold Machine.runStep
  rw [← h.congr State.fault, ← h.congr State.opv, ← h.congr State.op]
  split
  · split
    · exact h
    · rfl
  · split
    · exact h.exec _
    · exact h.takeOperation

end

/-- Settles O49: a reset forgets the ghost state, waiting leaves it, and each operation steps alike. -/
theorem ghostStateChangesNoOutput : Obligations.GhostStateChangesNoOutput := by
  intro s b l d t x
  have hreset : (withGhost b l d t x s).resetIn = s.resetIn := rfl
  unfold step
  rw [hreset]
  split
  · exact SameButGhost.runStep (sameButGhost_withGhost b l d t x s) false
  · rfl
  · exact SameButGhost.runStep (sameButGhost_withGhost b l d t x { s with resetIn := _ }) true

end Sys2Proof.Claim
end

section
/-! PROOFS. Where `bte_phase` and `lifecycle` change: the ghost updates that change them, the operations that have them,
and that they stand at the end (R143, R190, R192, R248). -/

namespace Sys2Proof.Machine

open Sys2Proof Claim

/-! ### The ghost updates of an expansion -/

/-- A ghost update at a position is one of the expansion's lines. -/
theorem Prog.mem_of_marks {p : Prog} {k : Nat} {g : Mark} (h : g ∈ p.marks k) : Item.mark g ∈ p := by
  induction p generalizing k with
  | nil => simp at h
  | cons x p ih =>
    cases x with
    | micro m =>
      cases k with
      | zero => simp at h
      | succ k => exact .tail _ (ih h)
    | mark g' =>
      cases k with
      | succ k => exact .tail _ (ih h)
      | zero =>
        obtain rfl | h := List.mem_cons.mp h
        · exact .head _
        · exact .tail _ (ih h)

/-- The one ghost update of an expansion stands behind its last position. -/
theorem Prog.pos_eq_none_of_mark {p : Prog} (hp : ∀ k, p.marks k = []) {g g' : Mark} {k : Nat}
    (h : g' ∈ Prog.marks (p ++ [.mark g]) k) : Prog.pos (p ++ [.mark g]) k = none := by
  rw [Prog.marks_append_mark hp] at h
  split_ifs at h with hk
  · rw [Prog.pos_append_mark, Prog.pos_eq_none]
    exact hk.ge
  · cases h

/-- Where ghost updates end a property, one of them does. -/
theorem exists_mark_of_applyMarks {P : State → Prop} {gs : List Mark} {s : State} (hs : P s)
    (h : ¬ P (applyMarks gs s)) : ∃ g ∈ gs, ∃ u, P u ∧ ¬ P (applyMark u g) := by
  induction gs generalizing s with
  | nil => exact absurd hs h
  | cons g gs ih =>
    by_cases hg : P (applyMark s g)
    · obtain ⟨g', hmem, hg'⟩ := ih hg h
      exact ⟨g', .tail _ hmem, hg'⟩
    · exact ⟨g, .head _, s, hs, hg⟩

section

variable {gs : List Mark} {s : State}

theorem bteWait_mem_of_applyMarks (hs : s.btePhase = .started) (h : (applyMarks gs s).btePhase ≠ .started) :
    .bteWait ∈ gs := by
  obtain ⟨g, hmem, u, hu, hg⟩ := exists_mark_of_applyMarks (P := fun u => u.btePhase = .started) hs h
  cases g
  case bteWait => exact hmem
  case bteField | bteSetup => simp [applyMark, hu, BtePhase.afterField, BtePhase.afterSetup] at hg
  case bteStart => exact absurd rfl hg
  all_goals exact absurd hu hg

theorem bteStart_mem_of_applyMarks (hs : s.btePhase ≠ .started) (h : (applyMarks gs s).btePhase = .started) :
    .bteStart ∈ gs := by
  obtain ⟨g, hmem, u, hu, hg⟩ :=
    exists_mark_of_applyMarks (P := fun u => u.btePhase ≠ .started) hs (not_not_intro h)
  cases g
  case bteStart => exact hmem
  case bteField | bteSetup =>
    exact absurd (by cases hphase : u.btePhase <;> simp_all [applyMark, BtePhase.afterField, BtePhase.afterSetup]) hg
  case bteWait => exact absurd (by simp [applyMark]) hg
  all_goals exact absurd hu hg

theorem lifecycle_mem_of_applyMarks (h : (applyMarks gs s).lifecycle ≠ s.lifecycle) :
    .sdramInitializing ∈ gs ∨ .configured ∈ gs := by
  obtain ⟨g, hmem, u, hu, hg⟩ := exists_mark_of_applyMarks (P := fun u => u.lifecycle = s.lifecycle) rfl h
  cases g
  case sdramInitializing => exact .inl hmem
  case configured => exact .inr hmem
  all_goals exact absurd hu hg

theorem configured_mem_of_applyMarks (hs : s.lifecycle ≠ .configured)
    (h : (applyMarks gs s).lifecycle = .configured) : .configured ∈ gs := by
  obtain ⟨g, hmem, u, hu, hg⟩ :=
    exists_mark_of_applyMarks (P := fun u => u.lifecycle ≠ .configured) hs (not_not_intro h)
  cases g
  case configured => exact hmem
  case sdramInitializing => exact absurd (by simp [applyMark]) hg
  all_goals exact absurd hu hg

end

/-! ### The operations that have them -/

/-- A well-formed `FILL` has packed bytes for its colour depth and its setup (R85). -/
theorem fill_codes {c : Cfg} {r g b : Byte} (hcheck : WellFormed.check c (.fill r g b) = none) :
    ∃ colr setup, c.bte.colr c.bte.depth24 c.bte.depth24 c.bte.depth24 = some colr ∧
      c.bte.setup c.bte.ropWhite c.bte.opcSolidFill = some setup := by
  obtain ⟨hchecks, -⟩ := List.append_eq_nil_iff.mp (List.head?_eq_none_iff.mp hcheck)
  obtain ⟨-, hcodes⟩ := List.append_eq_nil_iff.mp hchecks
  have hcodes := holds_of_need (List.head?_eq_none_iff.mpr hcodes)
  rw [Bool.and_eq_true, Option.isSome_iff_exists, Option.isSome_iff_exists] at hcodes
  obtain ⟨⟨colr, hcolr⟩, setup, hsetup⟩ := hcodes
  exact ⟨colr, setup, hcolr, hsetup⟩

section

variable {c : Cfg} {i : Instr} {k : Nat} (hcheck : WellFormed.check c i = none)

include hcheck

theorem special_mark {g : Mark} (h : g ∈ (expansion c i).marks k)
    (hg : (Item.mark g).ordinary = false) : Item.mark g ∈ specialLines c i := by
  obtain hord | hmem := line_cases hcheck _ (Prog.mem_of_marks h)
  · rw [hg] at hord
    cases hord
  · exact hmem

/-- `bte_phase` is set to `Idle` at the end of `BTE_WAIT`. -/
theorem bteWait_mark (h : .bteWait ∈ (expansion c i).marks k) : i = .bteWait ∧ (expansion c i).pos k = none := by
  obtain rfl : i = .bteWait := by
    have hmem := special_mark hcheck h rfl
    cases i
    case bteWait => rfl
    all_goals simp [specialLines, plain] at hmem
  have hmarks (k : Nat) : (pollr c.wire.ph c.regs.bteCtrl c.bte.busyMask (!c.bte.busyLevel)).marks k = [] := by
    obtain _ | _ | k := k <;> simp [pollr, plain]
  exact ⟨rfl, Prog.pos_eq_none_of_mark hmarks h⟩

/-- The engine is started at the end of `BTE_START` and of `FILL`. -/
theorem bteStart_mark (h : .bteStart ∈ (expansion c i).marks k) :
    (i = .bteStart ∨ ∃ r g b, i = .fill r g b) ∧ (expansion c i).pos k = none := by
  have hmem := special_mark hcheck h rfl
  cases i
  case bteStart => exact ⟨.inl rfl, Prog.pos_eq_none_of_mark (rmwb_marks _ _ _ _) h⟩
  case fill r g b =>
    refine ⟨.inr ⟨r, g, b, rfl⟩, ?_⟩
    obtain ⟨colr, setup, hcolr, hsetup⟩ := fill_codes hcheck
    rw [expansion, progFill_eq r g b hcolr hsetup] at h ⊢
    rw [fill_marks] at h
    split_ifs at h with hk
    · rw [Prog.pos_eq_none, fill_size]
      exact hk.ge
    · have hkeys : ∀ x ∈ fillMarks, x.2 ≠ .bteStart := by decide
      obtain ⟨l, l', heq, -⟩ := List.lookup_eq_some_iff.mp (Option.mem_toList.mp h)
      exact absurd rfl (hkeys (k, .bteStart) (by simp [heq]))
  all_goals simp [specialLines, plain] at hmem

/-- `INIT_DISP` sets `Configured`, at its end. -/
theorem configured_mark (h : .configured ∈ (expansion c i).marks k) :
    i = .initDisp ∧ (expansion c i).pos k = none := by
  obtain rfl : i = .initDisp := by
    have hmem := special_mark hcheck h rfl
    cases i
    case initDisp => rfl
    all_goals simp [specialLines, plain] at hmem
  refine ⟨rfl, ?_⟩
  obtain _ | _ | j := k
  · cases h
  · rw [expansion, progInitDisp_marks_one] at h
    simp at h
  · rw [expansion, progInitDisp_marks_later] at h
    split_ifs at h with hj
    · rw [expansion, Prog.pos_eq_none, progInitDisp_size, hj]
    · cases h

theorem sdramInitializing_mark (h : .sdramInitializing ∈ (expansion c i).marks k) : i = .initMem ∨ i = .initDisp := by
  have hmem := special_mark hcheck h rfl
  cases i
  case initMem => exact .inl rfl
  case initDisp => exact .inr rfl
  all_goals simp [specialLines, plain] at hmem

end

/-! ### The step -/

/-- Arriving at `k` changes the ghost state by the ghost updates there; where there is no position the operation is
complete. -/
theorem arrive_ghost (p : Prog) (res : State → Result) (k : Nat) (s : State) :
    (arrive p res k s).btePhase = (applyMarks (p.marks k) (goOn k s)).btePhase ∧
    (arrive p res k s).lifecycle = (applyMarks (p.marks k) (goOn k s)).lifecycle ∧
    (p.pos k = none → (arrive p res k s).opv = false ∧
      (arrive p res k s).result = res (applyMarks (p.marks k) (goOn k s))) := by
  unfold arrive goOn
  cases p.pos k <;> simp

/-- A step of an operation changes `bte_phase` and `lifecycle` by the ghost updates behind the position it has sent, or
by those at the start. -/
theorem OpStep.ghost_cases {i : Instr} {s t : State} (hcheck : WellFormed.check s.cfg i = none) (h : OpStep i s t) :
    (t.btePhase = s.btePhase ∧
      (t.lifecycle = s.lifecycle ∨ i = .initMem ∧ t.lifecycle = .sdramInitializing)) ∨
    ∃ k u, u.btePhase = s.btePhase ∧ (u.lifecycle = s.lifecycle ∨ i = .initMem ∧ u.lifecycle = .sdramInitializing) ∧
      t = arrive (expansion s.cfg i) (resultOf i) k u := by
  obtain ⟨hphase, -, -, -, hlife⟩ := startOp_ghost i s
  have hlife := hlife.imp_right fun ⟨hi, _, hl⟩ => And.intro hi hl
  cases h with
  | requests | delayEnds | delayGoesOn => exact .inl ⟨rfl, .inl rfl⟩
  | empty | failed => exact .inl ⟨hphase, hlife⟩
  | @sent m hdue hpos =>
    obtain hmove | ⟨mask, t, n, -, -, hmove⟩ | ⟨-, -, hmove⟩ := next_cases hcheck hpos (m.rxAfter s) <;> rw [hmove]
    · exact .inr ⟨_, afterPosition (expansion s.cfg i) m s, hphase, hlife, rfl⟩
    · exact .inl ⟨hphase, hlife⟩
    · exact .inl ⟨hphase, hlife⟩

end Sys2Proof.Machine

namespace Sys2Proof.Claim

open Sys2Proof Machine

/-- Settles O53: only the updates at the end of `BTE_WAIT`, `BTE_START` and `FILL` leave or enter `Started`. -/
theorem startedEndsOnlyWithBteWait : Obligations.StartedEndsOnlyWithBteWait := by
  intro s t hstep hreset
  obtain ⟨r, hr, -⟩ | ⟨-, rfl⟩ | ⟨-, -, i, k, rest, hexec, -⟩ := step_inv hstep
  · simp [hr] at hreset
  · exact ⟨fun hs ht => absurd hs ht, fun hs ht => absurd ht hs⟩
  · obtain ⟨hcheck, h⟩ := opStep_of_exec hexec
    obtain ⟨hop, -⟩ := h.keeps
    obtain ⟨hsame, -⟩ | ⟨k, u, hu, -, rfl⟩ := h.ghost_cases hcheck
    · exact ⟨fun hs ht => absurd (hsame.trans hs) ht, fun hs ht => absurd (hsame.symm.trans ht) hs⟩
    · obtain ⟨hphase, -, hend⟩ := arrive_ghost (expansion (s.latched i _ rest).cfg i) (resultOf i) k u
      rw [hop, hphase]
      refine ⟨fun hs ht => ?_, fun hs ht => ?_⟩
      · obtain ⟨rfl, hnone⟩ := bteWait_mark hcheck (bteWait_mem_of_applyMarks (s := goOn k u) (hu.trans hs) ht)
        exact ⟨rfl, hend hnone⟩
      · obtain ⟨hi, hnone⟩ := bteStart_mark hcheck (bteStart_mem_of_applyMarks (s := goOn k u)
          (fun h => hs (hu.symm.trans h)) ht)
        obtain ⟨hopv, hresult⟩ := hend hnone
        refine ⟨hopv, hresult.trans ?_, hi⟩
        obtain rfl | ⟨r, g, b, rfl⟩ := hi <;> rfl

/-- Settles O54: only the updates of `INIT_MEM` and `INIT_DISP` change `lifecycle`, and `Configured` is the one at the
end of `INIT_DISP`. -/
theorem onlyBringUpChangesTheLifecycle : Obligations.OnlyBringUpChangesTheLifecycle := by
  intro s t hstep hreset hne
  obtain ⟨r, hr, -⟩ | ⟨-, rfl⟩ | ⟨-, -, i, k, rest, hexec, -⟩ := step_inv hstep
  · simp [hr] at hreset
  · exact absurd rfl hne
  · obtain ⟨hcheck, h⟩ := opStep_of_exec hexec
    obtain ⟨hop, -⟩ := h.keeps
    rw [hop]
    change (i = .initMem ∨ i = .initDisp) ∧ (_ → i = .initDisp ∧ _)
    obtain ⟨-, hsame | ⟨hi, hlife⟩⟩ | ⟨k, u, -, hu, rfl⟩ := h.ghost_cases hcheck
    · exact absurd hsame hne
    · exact ⟨.inl hi, fun ht => by simp [hlife] at ht⟩
    · obtain ⟨-, hlife, hend⟩ := arrive_ghost (expansion (s.latched i _ rest).cfg i) (resultOf i) k u
      rw [hlife] at hne ⊢
      have hconfigured (h : .configured ∈ (expansion s.cfg i).marks k) :
          i = .initDisp ∧ (arrive (expansion s.cfg i) (resultOf i) k u).opv = false ∧
            (arrive (expansion s.cfg i) (resultOf i) k u).result = .ok := by
        obtain ⟨rfl, hnone⟩ := configured_mark hcheck h
        exact ⟨rfl, hend hnone⟩
      obtain hu | ⟨rfl, hu⟩ := hu
      · refine ⟨?_, fun ht => hconfigured (configured_mem_of_applyMarks (s := goOn k u) (fun h => hne ?_) ht)⟩
        · obtain h | h := lifecycle_mem_of_applyMarks (s := goOn k u) (ne_of_ne_of_eq hne hu.symm)
          · exact sdramInitializing_mark hcheck h
          · exact .inr (configured_mark hcheck h).1
        · exact ht.trans (h.symm.trans hu)
      · exact ⟨.inl rfl, fun ht => hconfigured (configured_mem_of_applyMarks (s := goOn k u) (by simp [goOn, hu]) ht)⟩

end Sys2Proof.Claim
end

section
/-! PROOFS. Runs of several steps: the state after frames sent one after the other, a row of frame steps (R15, R100,
R214). -/

namespace Sys2Proof.Claim

open Sys2Proof Machine

/-! ### The ports after some frames -/

/-- Between `s` and `u` the link has answered `n` frames. -/
def Drew (n : Nat) (s u : State) : Prop := u.link = s.link.drop n ∧ u.draws = s.draws + n

namespace Drew

variable {m n : Nat} {s u v : State}

theorem trans (hu : Drew m s u) (hv : Drew n u v) : Drew (m + n) s v := by
  obtain ⟨hlink, hdraws⟩ := hu
  obtain ⟨hlink', hdraws'⟩ := hv
  exact ⟨by rw [hlink', hlink, List.drop_drop], by rw [hdraws', hdraws, Nat.add_assoc]⟩

theorem later (h : Drew n s u) (k : Nat) : Drew (n + k) s (later k u) := h.trans ⟨rfl, rfl⟩

theorem rxByte (h : Drew n s u) (b : Nat) : u.rxByte b = (Claim.later n s).rxByte b := rxByte_congr h.1 h.2 b

theorem answer (h : Drew n s u) : u.answer = (Claim.later n s).answer := answer_congr h.1 h.2

theorem windows (h : Drew n s u) (k : Nat) (fs : List (List Byte)) : windows u k fs = windows s (n + k) fs := by
  induction fs generalizing k with
  | nil => rfl
  | cons tx fs ih =>
    obtain ⟨hlink, hdraws⟩ := h.later k
    rw [Claim.windows, Claim.windows, ih, Nat.add_assoc, window, window,
      xfersFrom_congr (t := Claim.later (n + k) s) hlink hdraws]

theorem clean (h : Drew n s u) (hclean : Clean (n + m) s) : Clean m u := fun k hk => by
  rw [(h.later k).answer]
  exact hclean _ (by omega)

theorem pollSees {o w k : Nat} {mask : Byte} {t : Bool} (h : Drew n s u) (hsees : PollSees s (n + o) w k mask t) :
    PollSees u o w k mask t := by
  obtain ⟨hmiss, hhit⟩ := hsees
  refine ⟨fun j hj => ?_, ?_⟩
  · rw [(h.later _).rxByte, ← Nat.add_assoc]
    exact hmiss j hj
  · rwa [(h.later _).rxByte, ← Nat.add_assoc]

end Drew

theorem Clean.mono {m n : Nat} {s : State} (h : Clean n s) (hm : m ≤ n) : Clean m s :=
  fun k hk => h k (Nat.lt_of_lt_of_le hk hm)

theorem Clean.err {n : Nat} {s : State} (h : Clean (n + 1) s) : s.answer.err = none := h 0 (Nat.succ_pos n)

/-! ### The state after some frames -/

/-- `s` after the frames `fs`, transferred without an error. -/
def afterFrames (fs : List (List Byte)) (s : State) : State :=
  { s with trace := s.trace ++ windows s 0 fs, link := s.link.drop fs.length, draws := s.draws + fs.length }

section

variable {s : State} {fs : List (List Byte)}

theorem drew_afterFrames (fs : List (List Byte)) (s : State) : Drew fs.length s (afterFrames fs s) := ⟨rfl, rfl⟩

@[simp] theorem afterFrames_nil (s : State) : afterFrames [] s = s := by
  simp [afterFrames, windows]

theorem afterFrame_eq_afterFrames (tx : List Byte) (s : State) : afterFrame tx s = afterFrames [tx] s := by
  have hwindow : windows s 0 [tx] = .csLow :: xfersFrom s 0 tx ++ [.csHigh] := List.append_nil _
  rw [afterFrames, hwindow, List.length_singleton, List.drop_one]
  rfl

theorem windows_append (s : State) (k : Nat) (fs gs : List (List Byte)) :
    windows s k (fs ++ gs) = windows s k fs ++ windows s (k + fs.length) gs := by
  induction fs generalizing k with
  | nil => rfl
  | cons tx fs ih => simp [windows, ih, Nat.add_assoc, Nat.add_comm 1]

theorem afterFrames_append (fs gs : List (List Byte)) (s : State) :
    afterFrames gs (afterFrames fs s) = afterFrames (fs ++ gs) s := by
  have hwindows : windows (afterFrames fs s) 0 gs = windows s (0 + fs.length) gs := by
    rw [(drew_afterFrames fs s).windows, Nat.add_comm]
  rw [afterFrames, hwindows]
  simp only [afterFrames, windows_append, List.append_assoc, List.length_append, Nat.add_assoc, List.drop_drop]

/-- Frames leave everything but the trace and the ports, and do not depend on it. -/
theorem afterFrames_with (fs : List (List Byte)) (s : State) (k : Nat) (rx tmp : Byte) (p : BtePhase) :
    afterFrames fs { s with seq := k, rx := rx, tmp := tmp, btePhase := p } =
      { afterFrames fs s with seq := k, rx := rx, tmp := tmp, btePhase := p } := by
  have hdrew : Drew 0 s { s with seq := k, rx := rx, tmp := tmp, btePhase := p } := ⟨rfl, rfl⟩
  rw [afterFrames, hdrew.windows]
  rfl

theorem afterFrames_rx (fs : List (List Byte)) (s : State) (b : Byte) :
    afterFrames fs { s with rx := b } = { afterFrames fs s with rx := b } := afterFrames_with fs s _ b _ _

theorem afterFrames_goOn (fs : List (List Byte)) (s : State) (k : Nat) :
    afterFrames fs (goOn k s) = goOn k (afterFrames fs s) := afterFrames_with fs s k _ _ _

end

/-! ### Runs -/

theorem coreRun_step {M : Host.Core} {n : Nat} {s t : M.State} (h : M.step s = .next t) :
    M.run (n + 1) s = M.run n t := by
  rw [Host.Core.run, h]

theorem coreRun_add {M : Host.Core} {m n : Nat} {s t : M.State} (h : M.run m s = .next t) :
    M.run (m + n) s = M.run n t := by
  induction m generalizing s with
  | zero =>
    cases h
    rw [Nat.zero_add]
  | succ m ih =>
    cases hs : M.step s with
    | next u =>
      rw [coreRun_step hs] at h
      rw [Nat.add_right_comm, coreRun_step hs, ih h]
    | fault f =>
      rw [Host.Core.run, hs] at h
      cases h
    | refused r =>
      rw [Host.Core.run, hs] at h
      cases h

theorem runs_zero (s : State) : runs 0 s = .next s := rfl

theorem runs_step {n : Nat} {s t : State} (h : step s = .next t) : runs (n + 1) s = runs n t := coreRun_step h

theorem runs_add {m n : Nat} {s t : State} (h : runs m s = .next t) : runs (m + n) s = runs n t := coreRun_add h

section

variable {i : Instr} {s : State} (hrun : Running i s) (hreset : s.resetIn = [])

include hrun hreset

theorem step_of_running : step s = exec i s := by
  obtain ⟨hopv, rfl, hfault, -, -⟩ := hrun
  exact step_running hreset hfault hopv

end

/-- The first step of a run, where it is a frame transferred without an error. -/
theorem runs_frame {i : Instr} {s : State} {n : Nat} {tx : List Byte} {ok : State → State} (h : FrameStep i s tx ok)
    (hrun : Running i s) (hreset : s.resetIn = []) (herr : s.answer.err = none) :
    runs (n + 1) s = runs n (ok (afterFrames [tx] s)) := by
  obtain ⟨hok, -⟩ := h
  rw [← afterFrame_eq_afterFrames]
  exact runs_step ((step_of_running hrun hreset).trans (hok herr))

section

variable {i : Instr} {s : State} (hrun : Running i s) (hreset : s.resetIn = [])

include hrun hreset

/-- The frames of a row up to one of them: each goes on. -/
theorem runs_row_goOn {fs : List (List Byte)} {k n : Nat} (hseq : s.seq = n) (hclean : Clean k s)
    (hk : k ≤ fs.length) (hstep : ∀ j tx, j < k → fs[j]? = some tx →
      FrameStep i (goOn (n + j) (afterFrames (fs.take j) s)) tx (goOn (n + j + 1))) :
    runs k s = .next (goOn (n + k) (afterFrames (fs.take k) s)) := by
  induction k with
  | zero =>
    subst hseq
    rw [List.take_zero, afterFrames_nil]
    rfl
  | succ k ih =>
    rw [runs_add (ih (hclean.mono k.le_succ) (Nat.le_of_succ_le hk) fun j tx hj => hstep j tx (Nat.lt_succ_of_lt hj))]
    have htx : fs[k]? = some fs[k] := List.getElem?_eq_getElem hk
    have hdrew : Drew k s (goOn (n + k) (afterFrames (fs.take k) s)) := by
      have h := drew_afterFrames (fs.take k) s
      rwa [List.length_take_of_le (Nat.le_of_succ_le hk)] at h
    rw [runs_frame (hstep k _ k.lt_succ_self htx) hrun hreset (hdrew.clean hclean).err, runs_zero, afterFrames_goOn,
      afterFrames_append, List.take_append_getElem]
    rfl

/-- A whole row of frames: each goes on but for the last, behind which `fin` happens at the
position reached. -/
theorem runs_row {fs : List (List Byte)} {n : Nat} {fin : Nat → State → State} (hseq : s.seq = n)
    (hclean : Clean fs.length s) (hlen : 0 < fs.length) (hstep : ∀ j tx, fs[j]? = some tx →
      FrameStep i (goOn (n + j) (afterFrames (fs.take j) s)) tx fun u =>
        if j + 1 = fs.length then fin (n + j + 1) u else goOn (n + j + 1) u) :
    runs fs.length s = .next (fin (n + fs.length) (goOn (n + (fs.length - 1)) (afterFrames fs s))) := by
  obtain ⟨k, hk⟩ := Nat.exists_eq_add_one_of_ne_zero hlen.ne'
  have hlt : k < fs.length := by omega
  have htx : fs[k]? = some fs[k] := List.getElem?_eq_getElem hlt
  have hinside := runs_row_goOn hrun hreset hseq (hclean.mono hlt.le) hlt.le fun j tx hj h => by
    simpa only [if_neg (show j + 1 ≠ fs.length by omega)] using hstep j tx h
  have hlast := hstep k _ htx
  simp only [if_pos hk.symm] at hlast
  have hdrew : Drew k s (goOn (n + k) (afterFrames (fs.take k) s)) := by
    have h := drew_afterFrames (fs.take k) s
    rwa [List.length_take_of_le hlt.le] at h
  rw [hk] at hclean
  have hwhole : fs.take k ++ [fs[k]] = fs := by
    rw [List.take_append_getElem, ← hk, List.take_length]
  rw [hk, runs_add hinside, runs_frame hlast hrun hreset (hdrew.clean hclean).err, runs_zero,
    afterFrames_goOn, afterFrames_append, hwhole]
  rfl

end

/-- An operation that sends a row of frames, from its start to its end. -/
theorem runs_sends {i : Instr} {s : State} {fs : List (List Byte)} (hrun : Running i s) (hreset : s.resetIn = [])
    (hseq : s.seq = 0) (hclean : Clean fs.length s) (hlen : 0 < fs.length)
    (hsends : ∀ u, Running i u → Sends i u fs id) :
    runs fs.length s = .next (done fs.length .ok (afterFrames fs s)) := by
  have h := runs_row (n := 0) (fin := fun k => done k .ok) hrun hreset hseq hclean hlen fun j tx htx => by
    have hstep : FrameStep i (goOn (0 + j) (afterFrames (fs.take j) s)) tx fun u =>
        if 0 + j + 1 = fs.length then done (0 + j + 1) .ok u else goOn (0 + j + 1) u :=
      hsends (goOn (0 + j) (afterFrames (fs.take j) s)) hrun tx ((Nat.zero_add j).symm ▸ htx)
    simpa only [Nat.zero_add] using hstep
  rwa [Nat.zero_add] at h

/-- Settles O18: both are rows of write frames. -/
theorem pairedAndBurstWritesRunWhole : Obligations.PairedAndBurstWritesRunWhole := by
  intro s hseq hreset
  refine ⟨fun a v hrun hclean => ?_, fun a v hrun hclean => ?_⟩
  · exact runs_sends (fs := wr16Frames a v) hrun hreset hseq hclean (Nat.succ_pos _) fun u hu =>
      sends_of_writes hu rfl (wr16_writes a v) rfl
  · exact runs_sends (fs := wr32Frames a v) hrun hreset hseq hclean (Nat.succ_pos _) fun u hu =>
      sends_of_writes hu rfl (wr32_writes a v) rfl

end Sys2Proof.Claim
end

section
/-! PROOFS. Whole polls: the attempts that miss, the one that hits (R124, R125, R214). -/

namespace Sys2Proof.Claim

open Sys2Proof Machine

/-! ### The attempts that miss -/

/-- `n` attempts of the frames `fs` have been sent, and `RX` holds `b`. -/
def afterMisses (n : Nat) (fs : List (List Byte)) (b : Byte) (s : State) : State :=
  { afterFrames (List.replicate n fs).flatten s with rx := b }

theorem drew_afterMisses (n : Nat) (fs : List (List Byte)) (b : Byte) (s : State) :
    Drew (fs.length * n) s (afterMisses n fs b s) := by
  have hlength : (List.replicate n fs).flatten.length = fs.length * n := by simp [Nat.mul_comm]
  exact hlength ▸ drew_afterFrames (List.replicate n fs).flatten s

/-- One more attempt behind those. -/
theorem afterFrames_afterMisses (n : Nat) (fs : List (List Byte)) (b : Byte) (s : State) :
    afterFrames fs (afterMisses n fs b s) = afterMisses (n + 1) fs b s := by
  rw [afterMisses, afterFrames_rx, afterFrames_append, afterMisses, List.replicate_succ', List.flatten_append,
    List.flatten_singleton]

/-- Attempts that all miss, each of the frames `fs` and back to the same position: `RX` keeps the last byte read. `o` is
the place of the read among the frames of an attempt. -/
theorem runs_misses {i : Instr} {fs : List (List Byte)} {o n : Nat} {m : Byte} {t : Bool} {s : State}
    (hattempt : ∀ u, Running i u → u.resetIn = [] → u.seq = s.seq → u.cfg = s.cfg → Clean fs.length u →
      ¬ bitIs ((later o u).rxByte 1) m t →
      runs fs.length u = .next { afterFrames fs u with rx := (later o u).rxByte 1 })
    (hrun : Running i s) (hreset : s.resetIn = []) (hclean : Clean (fs.length * n) s)
    (hmiss : ∀ k, k < n → ¬ bitIs ((later (fs.length * k + o) s).rxByte 1) m t) :
    ∃ b, runs (fs.length * n) s = .next (afterMisses n fs b s) := by
  induction n with
  | zero =>
    refine ⟨s.rx, ?_⟩
    rw [afterMisses, List.replicate_zero, List.flatten_nil, afterFrames_nil]
    rfl
  | succ n ih =>
    obtain ⟨b, hb⟩ := ih (hclean.mono (Nat.mul_le_mul_left _ n.le_succ)) fun k hk => hmiss k (Nat.lt_succ_of_lt hk)
    have hdrew := drew_afterMisses n fs b s
    have hbyte := (hdrew.later o).rxByte 1
    have hlast := hattempt (afterMisses n fs b s) hrun hreset rfl rfl (hdrew.clean hclean)
      (hbyte ▸ hmiss n n.lt_succ_self)
    refine ⟨(later o (afterMisses n fs b s)).rxByte 1, ?_⟩
    rw [Nat.mul_succ, runs_add hb, hlast, afterFrames_afterMisses]
    rfl

/-! ### `POLLR` -/

/-- The two frames of an attempt (R124). -/
def pollFrames (c : Cfg) (a : Byte) : List (List Byte) := [[0x00#8, a], [0xC0#8, c.wire.ph]]

section

variable {s : State} {a m : Byte} {t : Bool} (hrun : Running (.pollr a m t) s) (hreset : s.resetIn = [])
  (hseq : s.seq = 0) (hclean : Clean 2 s)

include hrun hreset hseq hclean

/-- The first frame of an attempt, and then its read. -/
theorem runs_pollr_attempt {ok : State → State}
    (hread : FrameStep (.pollr a m t) (goOn 1 (afterFrames [[0x00#8, a]] s)) [0xC0#8, s.cfg.wire.ph] ok) :
    runs 2 s = .next (ok (goOn 1 (afterFrames (pollFrames s.cfg a) s))) := by
  obtain ⟨-, -, hsteps⟩ := registerPollRepeatsUntilTheBit s a m t
  obtain ⟨haddress, -, -⟩ := hsteps hrun
  have hdrew : Drew 1 s (goOn 1 (afterFrames [[0x00#8, a]] s)) := drew_afterFrames [[0x00#8, a]] s
  rw [runs_frame (haddress hseq) hrun hreset hclean.err, runs_frame hread hrun hreset (hdrew.clean (m := 1) hclean).err,
    afterFrames_goOn, afterFrames_append]
  rfl

/-- An attempt that misses leads back to the start. -/
theorem runs_pollr_miss (hbit : ¬ bitIs ((later 1 s).rxByte 1) m t) :
    runs 2 s = .next { afterFrames (pollFrames s.cfg a) s with rx := (later 1 s).rxByte 1 } := by
  obtain ⟨-, -, hsteps⟩ := registerPollRepeatsUntilTheBit (goOn 1 (afterFrames [[0x00#8, a]] s)) a m t
  obtain ⟨-, -, hmiss⟩ := hsteps hrun
  rw [runs_pollr_attempt hrun hreset hseq hclean (hmiss rfl hbit), ← hseq]
  rfl

/-- An attempt that hits completes. -/
theorem runs_pollr_hit (hbit : bitIs ((later 1 s).rxByte 1) m t) :
    runs 2 s = .next (done 2 .ok { afterFrames (pollFrames s.cfg a) s with rx := (later 1 s).rxByte 1 }) := by
  obtain ⟨-, -, hsteps⟩ := registerPollRepeatsUntilTheBit (goOn 1 (afterFrames [[0x00#8, a]] s)) a m t
  obtain ⟨-, hhit, -⟩ := hsteps hrun
  rw [runs_pollr_attempt hrun hreset hseq hclean (hhit rfl hbit)]
  rfl

end

/-- The attempts of `POLLR` that miss. -/
theorem runs_pollr_misses {s : State} {a m : Byte} {t : Bool} {n : Nat} (hrun : Running (.pollr a m t) s)
    (hreset : s.resetIn = []) (hseq : s.seq = 0) (hclean : Clean (2 * n) s)
    (hmiss : ∀ k, k < n → ¬ bitIs ((later (2 * k + 1) s).rxByte 1) m t) :
    ∃ b, runs (2 * n) s = .next (afterMisses n (pollFrames s.cfg a) b s) :=
  runs_misses (fs := pollFrames s.cfg a) (fun u hrun hreset hu hcfg hclean hbit => by
    rw [← hcfg]
    exact runs_pollr_miss hrun hreset (hu.trans hseq) hclean hbit) hrun hreset hclean hmiss

/-- Settles O44: every attempt misses. -/
theorem registerPollCanRunForEver : Obligations.RegisterPollCanRunForEver := by
  intro n s a m t hrun hseq hreset hclean hmiss
  obtain ⟨b, hb⟩ := runs_pollr_misses hrun hreset hseq hclean hmiss
  obtain ⟨hlink, hdraws⟩ := drew_afterMisses n (pollFrames s.cfg a) b s
  exact ⟨_, hb, hrun, hseq, rfl, hlink, hdraws⟩

/-- Settles O45: the misses, and the hit. -/
theorem registerPollEndsAtTheFirstHit : Obligations.RegisterPollEndsAtTheFirstHit := by
  rintro n s a m t hrun hseq hreset hclean ⟨hmiss, hhit⟩
  obtain ⟨b, hb⟩ := runs_pollr_misses hrun hreset hseq (hclean.mono (by omega)) fun k hk =>
    Nat.add_comm 1 (2 * k) ▸ hmiss k hk
  have hdrew := drew_afterMisses n (pollFrames s.cfg a) b s
  have hbyte := (hdrew.later 1).rxByte 1
  have hlast := runs_pollr_hit (s := afterMisses n (pollFrames s.cfg a) b s) hrun hreset hseq (hdrew.clean hclean)
    (hbyte ▸ Nat.add_comm 1 (2 * n) ▸ hhit)
  have hcfg : pollFrames (afterMisses n (pollFrames s.cfg a) b s).cfg a = pollFrames s.cfg a := rfl
  obtain ⟨hlink, hdraws⟩ := drew_afterMisses (n + 1) (pollFrames s.cfg a) b s
  rw [Nat.mul_succ, runs_add hb, hlast, hcfg, afterFrames_afterMisses, hbyte, done, hlink, hdraws]
  rfl

/-! ### Polls of one frame an attempt -/

theorem flatten_replicate_singleton (n : Nat) (tx : List Byte) :
    (List.replicate n [tx]).flatten = List.replicate n tx := by
  induction n with
  | zero => rfl
  | succ n ih => rw [List.replicate_succ, List.replicate_succ, List.flatten_cons, ih, List.singleton_append]

/-- The state behind attempts of one frame each. -/
theorem afterMisses_singleton (n : Nat) (tx : List Byte) (b : Byte) (s : State) :
    afterMisses n [tx] b s = { afterFrames (List.replicate n tx) s with rx := b } := by
  rw [afterMisses, flatten_replicate_singleton]

theorem drew_afterMisses_singleton (n : Nat) (tx : List Byte) (b : Byte) (s : State) :
    Drew n s (afterMisses n [tx] b s) := by
  have h := drew_afterMisses n [tx] b s
  rwa [List.length_singleton, Nat.one_mul] at h

/-- Attempts of one frame that all miss. -/
theorem runs_statusMisses {i : Instr} {n : Nat} {m : Byte} {t : Bool} {tx : List Byte} {s : State}
    (hattempt : ∀ u, Running i u → u.seq = s.seq → u.cfg = s.cfg → ¬ bitIs (u.rxByte 1) m t →
      FrameStep i u tx fun v => goOn s.seq { v with rx := u.rxByte 1 })
    (hrun : Running i s) (hreset : s.resetIn = []) (hclean : Clean n s)
    (hmiss : ∀ k, k < n → ¬ bitIs ((later k s).rxByte 1) m t) :
    ∃ b, runs n s = .next (afterMisses n [tx] b s) := by
  have hone : [tx].length * n = n := Nat.one_mul n
  have h := runs_misses (fs := [tx]) (o := 0) (n := n) (m := m) (t := t) (fun u hu hr hseq hcfg hc hbit => by
    rw [List.length_singleton, runs_frame (hattempt u hu hseq hcfg hbit) hu hr hc.err, runs_zero, ← hseq]
    rfl) hrun hreset (hone.symm ▸ hclean) fun k hk => Nat.one_mul k |>.symm ▸ hmiss k hk
  rwa [hone] at h

/-- Settles O46: the misses, and the hit. -/
theorem statusPollEndsAtTheFirstHit : Obligations.StatusPollEndsAtTheFirstHit := by
  rintro n s m t hrun hseq hreset hclean ⟨hmiss, hhit⟩
  have hindex (k : Nat) : 0 + 1 * k = k := by omega
  have hstep (u : State) (hu : u.seq = 0) := (statusPollsRepeatUntilTheBit u hu).1 m t
  obtain ⟨b, hb⟩ := runs_statusMisses (tx := [0x40#8, s.cfg.wire.ph]) (fun u hrun hu hcfg hbit => by
    obtain ⟨-, -, hsteps⟩ := hstep u (hu.trans hseq)
    rw [← hcfg, hseq]
    exact (hsteps hrun).2 hbit) hrun hreset (hclean.mono n.le_succ) fun k hk => hindex k ▸ hmiss k hk
  have hdrew := drew_afterMisses_singleton n [0x40#8, s.cfg.wire.ph] b s
  have hbyte := hdrew.rxByte 1
  obtain ⟨-, -, hsteps⟩ := hstep (afterMisses n [[0x40#8, s.cfg.wire.ph]] b s) hseq
  obtain ⟨hlast, -⟩ := hsteps hrun
  have hcfg : (afterMisses n [[0x40#8, s.cfg.wire.ph]] b s).cfg = s.cfg := rfl
  rw [hcfg, hbyte] at hlast
  rw [hindex] at hhit
  rw [runs_add hb, runs_frame (hlast hhit) hrun hreset (hdrew.clean hclean).err, runs_zero, afterFrames_afterMisses,
    afterMisses_singleton, afterFrames, List.length_replicate]
  rfl

end Sys2Proof.Claim
end

section
/-! PROOFS. Whole runs of `FILL` and of a text (R159, R191). -/

namespace Sys2Proof.Claim

open Sys2Proof Machine

/-! ### A running operation behind some frames -/

/-- `s` behind the frames `fs`, at position `k`, with the data registers and `bte_phase` as given. -/
def reached (k : Nat) (fs : List (List Byte)) (rx tmp : Byte) (p : BtePhase) (s : State) : State :=
  { afterFrames fs s with seq := k, rx := rx, tmp := tmp, btePhase := p }

section

variable {k : Nat} {fs : List (List Byte)} {rx tmp : Byte} {p : BtePhase} {s : State}

theorem reached_start (h : s.seq = k) : reached k [] s.rx s.tmp s.btePhase s = s := by
  rw [reached, afterFrames_nil, ← h]

theorem drew_reached : Drew fs.length s (reached k fs rx tmp p s) := ⟨rfl, rfl⟩

theorem afterFrames_reached (gs : List (List Byte)) :
    afterFrames gs (reached k fs rx tmp p s) = reached k (fs ++ gs) rx tmp p s := by
  rw [reached, afterFrames_with, afterFrames_append]
  rfl

theorem reached_reached {k' : Nat} {gs : List (List Byte)} {rx' tmp' : Byte} {p' : BtePhase} :
    reached k' gs rx' tmp' p' (reached k fs rx tmp p s) = reached k' (fs ++ gs) rx' tmp' p' s := by
  rw [reached, afterFrames_reached]
  rfl

/-- The next step from there, where it is a frame transferred without an error. -/
theorem runs_reached {i : Instr} {n : Nat} {tx : List Byte} {ok : State → State}
    (h : FrameStep i (reached k fs rx tmp p s) tx ok) (hrun : Running i s) (hreset : s.resetIn = [])
    (hclean : Clean (fs.length + 1) s) :
    runs (n + 1) (reached k fs rx tmp p s) = runs n (ok (reached k (fs ++ [tx]) rx tmp p s)) := by
  rw [runs_frame h hrun hreset (drew_reached.clean hclean).err, afterFrames_reached]

end

/-! ### `FILL` -/

section

variable {s : State} {r g b colr setup : Byte} (hrun : Running (.fill r g b) s) (hreset : s.resetIn = [])
  (hcolr : s.cfg.bte.colr s.cfg.bte.depth24 s.cfg.bte.depth24 s.cfg.bte.depth24 = some colr)
  (hsetup : s.cfg.bte.setup s.cfg.bte.ropWhite s.cfg.bte.opcSolidFill = some setup)

include hrun hreset hcolr hsetup

/-- The first `k` register writes of `FILL`; `bte_phase` is then some `p`. -/
theorem runs_fill_writes {k : Nat} (hseq : s.seq = 0) (hclean : Clean k s) (hk : k ≤ 34) :
    ∃ p, runs k s = .next (reached k ((fillWrites s.cfg r g b colr setup).take k) s.rx s.tmp p s) := by
  induction k with
  | zero => exact ⟨s.btePhase, congrArg Host.Outcome.next (reached_start hseq).symm⟩
  | succ k ih =>
    obtain ⟨p, hp⟩ := ih (hclean.mono k.le_succ) (Nat.le_of_succ_le hk)
    have hlen := (fillWriters_rows s.cfg r g b colr setup).length
    have hlt : k < (fillWrites s.cfg r g b colr setup).length := by omega
    obtain ⟨-, hsteps⟩ := fillStepsOneFrameAtATime
      (reached k ((fillWrites s.cfg r g b colr setup).take k) s.rx s.tmp p s) r g b colr setup
    obtain ⟨hwrite, -⟩ := hsteps hrun hcolr hsetup
    refine ⟨fillPhase (k + 1) p, ?_⟩
    rw [runs_add hp, runs_reached (hwrite _ (List.getElem?_eq_getElem hlt)) hrun hreset, runs_zero,
      List.take_append_getElem]
    · rfl
    · rwa [List.length_take_of_le hlt.le]

/-- The read-modify-write of the start, behind the 34 writes `fs`. -/
theorem runs_fill_start {fs : List (List Byte)} {p : BtePhase} {rd : Byte} (hlen : fs.length = 34) (hclean : Clean 38 s)
    (hrd : rd = (later 35 s).rxByte 1) :
    runs 4 (reached 34 fs s.rx s.tmp p s) = .next (done 38 .ok (reached 38 (fs ++ [[0x00#8, s.cfg.regs.bteCtrl]] ++
      [[0xC0#8, s.cfg.wire.ph]] ++ [[0x00#8, s.cfg.regs.bteCtrl]] ++ [[0x80#8, rd ||| s.cfg.bte.enableMask]])
      rd rd .started s)) := by
  have hsteps (u : State) := (fillStepsOneFrameAtATime u r g b colr setup).2
  generalize hA : [[0x00#8, s.cfg.regs.bteCtrl]] = A
  generalize hB : [[0xC0#8, s.cfg.wire.ph]] = B
  obtain ⟨-, haddress, -, -, -⟩ := hsteps (reached 34 fs s.rx s.tmp p s) hrun hcolr hsetup
  obtain ⟨-, -, hread, -, -⟩ := hsteps (reached 35 (fs ++ A) s.rx s.tmp p s) hrun hcolr hsetup
  obtain ⟨-, -, -, hagain, -⟩ := hsteps (reached 36 (fs ++ A ++ B) rd rd p s) hrun hcolr hsetup
  obtain ⟨-, -, -, -, hwrite⟩ := hsteps (reached 37 (fs ++ A ++ B ++ A) rd rd p s) hrun hcolr hsetup
  have hbyte : (reached 35 (fs ++ A) s.rx s.tmp p s).rxByte 1 = rd := by
    rw [drew_reached.rxByte, hrd, List.length_append, hlen, ← hA]
    rfl
  rw [hbyte] at hread
  calc runs 4 (reached 34 fs s.rx s.tmp p s)
    _ = runs 3 (reached 35 (fs ++ A) s.rx s.tmp p s) := by
        rw [runs_reached (haddress rfl) hrun hreset (hclean.mono (by omega)), ← hA]
        rfl
    _ = runs 2 (reached 36 (fs ++ A ++ B) rd rd p s) := by
        rw [runs_reached (hread rfl) hrun hreset (hclean.mono (by simp [← hA]; omega)), ← hB]
        rfl
    _ = runs 1 (reached 37 (fs ++ A ++ B ++ A) rd rd p s) := by
        rw [runs_reached (hagain rfl) hrun hreset (hclean.mono (by simp [← hA, ← hB]; omega)), ← hA]
        rfl
    _ = _ := by
        rw [runs_reached (hwrite rfl) hrun hreset (hclean.mono (by simp [← hA, ← hB]; omega))]
        rfl

end

/-- Settles O39: the register writes, then the read-modify-write of the start. -/
theorem fillSendsItsFramesInTheExactOrder : Obligations.FillSendsItsFramesInTheExactOrder := by
  intro s r g b colr setup hrun hseq hreset hclean hcolr hsetup rd hrd
  have hlen := (fillWriters_rows s.cfg r g b colr setup).length
  obtain ⟨p, hp⟩ := runs_fill_writes hrun hreset hcolr hsetup hseq (hclean.mono (by decide : 34 ≤ 38)) le_rfl
  rw [← hlen, List.take_length, hlen] at hp
  rw [runs_add (n := 4) hp, runs_fill_start hrun hreset hcolr hsetup hlen hclean hrd]
  simp only [List.append_assoc, List.singleton_append]
  have htotal (gs : List (List Byte)) : (fillWrites s.cfg r g b colr setup ++ gs).length = 34 + gs.length := by
    rw [List.length_append, hlen]
  simp only [reached, afterFrames, htotal]
  rfl

/-! ### A text -/

/-- A chunk whose two polls see the awaited bits at once. -/
theorem runs_chunk {s : State} {txt d : List Byte} {k : Nat} (hrun : Running (.writeText txt) s)
    (hreset : s.resetIn = []) (hseq : s.seq = 4 * k) (hk : 16 * k < txt.length) (hd : (txt.drop (16 * k)).take 16 = d)
    (hclean : Clean 4 s) (hempty : bitIs (s.rxByte 1) s.cfg.status.wfifoMask s.cfg.status.wfifoEmptyLevel)
    (hidle : bitIs ((later 3 s).rxByte 1) s.cfg.status.busyMask (!s.cfg.status.busyLevel)) :
    runs 4 s = .next (if txt.length ≤ 16 * (k + 1) then
        done (4 * k + 4) .ok (reached (4 * k + 4) (chunkFrames s.cfg d) ((later 3 s).rxByte 1) s.tmp s.btePhase s)
      else reached (4 * k + 4) (chunkFrames s.cfg d) ((later 3 s).rxByte 1) s.tmp s.btePhase s) := by
  have hsteps (u : State) (hu : Running (.writeText txt) u) := ((textIsSentInChunksBetweenPolls u txt).2 hu).2 k hk
  obtain ⟨hpoll, -⟩ := hsteps s hrun
  obtain ⟨-, -, haddress, -⟩ :=
    hsteps (reached (4 * k + 1) ((chunkFrames s.cfg d).take 1) (s.rxByte 1) s.tmp s.btePhase s) hrun
  obtain ⟨-, -, -, hburst, -⟩ :=
    hsteps (reached (4 * k + 2) ((chunkFrames s.cfg d).take 2) (s.rxByte 1) s.tmp s.btePhase s) hrun
  obtain ⟨-, -, -, -, hlast, -⟩ :=
    hsteps (reached (4 * k + 3) ((chunkFrames s.cfg d).take 3) (s.rxByte 1) s.tmp s.btePhase s) hrun
  rw [hd] at hburst
  calc runs 4 s
    _ = runs 3 (reached (4 * k + 1) ((chunkFrames s.cfg d).take 1) (s.rxByte 1) s.tmp s.btePhase s) :=
        runs_frame (hpoll hseq hempty) hrun hreset hclean.err
    _ = runs 2 (reached (4 * k + 2) ((chunkFrames s.cfg d).take 2) (s.rxByte 1) s.tmp s.btePhase s) :=
        runs_reached (haddress rfl) hrun hreset (hclean.mono (by decide : 2 ≤ 4))
    _ = runs 1 (reached (4 * k + 3) ((chunkFrames s.cfg d).take 3) (s.rxByte 1) s.tmp s.btePhase s) :=
        runs_reached (hburst rfl) hrun hreset (hclean.mono (by decide : 3 ≤ 4))
    _ = _ := by
        rw [runs_reached (hlast rfl hidle) hrun hreset (hclean.mono le_rfl), runs_zero]
        split <;> rfl

theorem Pieces.length_pos {txt : List Byte} {ds : List (List Byte)} (h : Pieces txt ds) (hds : ds ≠ []) :
    0 < txt.length := by
  cases ds with
  | nil => exact absurd rfl hds
  | cons d ds =>
    obtain ⟨hpos, -, -, rest, rfl, -⟩ := h
    rw [List.length_append]
    omega

/-- The pieces of a text from its byte `16 k` on. -/
theorem runs_pieces {txt : List Byte} {ps : List (List Byte)} {s : State} {k : Nat} (hrun : Running (.writeText txt) s)
    (hreset : s.resetIn = []) (hseq : s.seq = 4 * k) (hps : Pieces (txt.drop (16 * k)) ps) (hne : ps ≠ [])
    (hclean : Clean (4 * ps.length) s)
    (hready : ∀ j, j < ps.length →
      bitIs ((later (4 * j) s).rxByte 1) s.cfg.status.wfifoMask s.cfg.status.wfifoEmptyLevel ∧
      bitIs ((later (4 * j + 3) s).rxByte 1) s.cfg.status.busyMask (!s.cfg.status.busyLevel)) :
    runs (4 * ps.length) s = .next (done (4 * (k + ps.length)) .ok
      (reached (4 * (k + ps.length)) (ps.flatMap (chunkFrames s.cfg)) ((later (4 * ps.length - 1) s).rxByte 1) s.tmp
        s.btePhase s)) := by
  induction ps generalizing s k with
  | nil => exact absurd rfl hne
  | cons d ps ih =>
    have hpos := hps.length_pos hne
    obtain ⟨-, hd16, hfull, rest, hrest, hpieces⟩ := hps
    rw [List.length_drop] at hpos
    obtain ⟨hempty, hidle⟩ := hready 0 (Nat.succ_pos _)
    rcases eq_or_ne ps [] with rfl | hmore
    · have hnil : rest = [] := hpieces
      have hlength := congrArg List.length hrest
      rw [hnil, List.append_nil] at hrest hlength
      rw [List.length_drop] at hlength
      have hchunk := runs_chunk hrun hreset hseq (by omega)
        (by rw [hrest, List.take_of_length_le hd16]) (hclean.mono le_rfl) hempty hidle
      rw [if_pos (by omega)] at hchunk
      simpa [Nat.mul_succ] using hchunk
    · have hd := hfull hmore
      have hnext : rest = txt.drop (16 * (k + 1)) := by
        rw [Nat.mul_succ, ← List.drop_drop, hrest, ← hd, List.drop_left]
      have hmany := hpieces.length_pos hmore
      rw [hnext, List.length_drop] at hmany
      have hchunk := runs_chunk hrun hreset hseq (by omega)
        (by rw [hrest, ← hd, List.take_left]) (hclean.mono (by simp)) hempty hidle
      rw [if_neg (by omega)] at hchunk
      have hdrew : Drew 4 s (reached (4 * k + 4) (chunkFrames s.cfg d) ((later 3 s).rxByte 1) s.tmp s.btePhase s) :=
        drew_reached
      have hrest := ih (k := k + 1)
        (s := reached (4 * k + 4) (chunkFrames s.cfg d) ((later 3 s).rxByte 1) s.tmp s.btePhase s)
        hrun hreset rfl (hnext ▸ hpieces) hmore (hdrew.clean (by rwa [Nat.add_comm, ← Nat.mul_succ]))
        fun j hj => by
          rw [(hdrew.later _).rxByte, (hdrew.later _).rxByte, ← Nat.add_assoc, Nat.add_comm 4, ← Nat.mul_succ]
          exact hready (j + 1) (Nat.succ_lt_succ hj)
      have hcount := List.length_pos_iff.mpr hmore
      have hread : 4 + (4 * ps.length - 1) = 4 + 4 * ps.length - 1 := by omega
      rw [List.length_cons, Nat.mul_succ, Nat.add_comm, runs_add hchunk, hrest, (hdrew.later _).rxByte, reached_reached,
        hread, ← Nat.add_assoc k, Nat.add_right_comm k, List.flatMap_cons]
      rfl

/-- Settles O31: the pieces from the first byte on. -/
theorem wholeTextIsSentPieceByPiece : Obligations.WholeTextIsSentPieceByPiece := by
  intro s txt pieces hrun hseq hreset htxt hpieces hclean hready
  have hne : pieces ≠ [] := by
    rintro rfl
    exact htxt hpieces
  have hlength : (pieces.flatMap (chunkFrames s.cfg)).length = 4 * pieces.length := by
    have hfour (d : List Byte) : (chunkFrames s.cfg d).length = 4 := rfl
    simp [List.length_flatMap, hfour, Nat.mul_comm]
  rw [runs_pieces (k := 0) hrun hreset hseq hpieces hne hclean hready, Nat.zero_add, reached, afterFrames, hlength]
  rfl

end Sys2Proof.Claim
end

section
/-! PROOFS. The SDRAM poll, whose attempts are apart by delays, and the whole bring-up (R141, R143, R222, R251). -/

namespace Sys2Proof.Claim

open Sys2Proof Machine

/-! ### One delay -/

/-- The timer's steps, from the request to the end of the delay. -/
theorem runs_timer {i : Instr} {s : State} {ms start d : Nat} (hrun : Running i s) (hreset : s.resetIn = [])
    (htimer : s.timer = some d)
    (hdelay : ∀ v, Running i v → v.seq = s.seq → v.rx = s.rx → v.cfg = s.cfg → DelayStep i v ms start) :
    runs (timerTakes s.timerIn) s =
      .next { s with timer := none, timerIn := timerLeft s.timerIn, seq := start } := by
  generalize hl : s.timerIn = l
  induction l generalizing s with
  | nil =>
    obtain ⟨hend, -, -⟩ := (hdelay s hrun rfl rfl rfl).2 d htimer
    rw [timerTakes, runs_step ((step_of_running hrun hreset).trans (hend hl)), runs_zero, timerLeft, ← hl]
  | cons b l ih =>
    obtain ⟨-, hends, hgoesOn⟩ := (hdelay s hrun rfl rfl rfl).2 d htimer
    cases b with
    | true => rw [timerTakes, runs_step ((step_of_running hrun hreset).trans (hends l hl)), runs_zero, timerLeft]
    | false =>
      rw [timerTakes, runs_step ((step_of_running hrun hreset).trans (hgoesOn l hl)), timerLeft]
      exact ih (s := { s with timerIn := l }) hrun hreset htimer hdelay rfl

/-- A whole delay: its request, and the timer's steps to its end. -/
theorem runs_delay {i : Instr} {s : State} {ms start : Nat} (hrun : Running i s) (hreset : s.resetIn = [])
    (htimer : s.timer = none)
    (hdelay : ∀ v, Running i v → v.seq = s.seq → v.rx = s.rx → v.cfg = s.cfg → DelayStep i v ms start) :
    runs (timerTakes s.timerIn + 1) s =
      .next { s with trace := s.trace ++ [.delay ms], timerIn := timerLeft s.timerIn, seq := start } := by
  obtain ⟨hrequest, -⟩ := hdelay s hrun rfl rfl rfl
  rw [runs_step ((step_of_running hrun hreset).trans (hrequest htimer))]
  have h := runs_timer (s := { s with trace := s.trace ++ [.delay ms], timer := some ms }) hrun hreset rfl hdelay
  rw [← htimer] at h
  exact h

/-! ### The attempts that miss -/

/-- The SDRAM poll of operation `i`, from its position `a` on: the frames of an attempt, and behind a read that misses
the delay (R141). -/
structure SdramLoop (i : Instr) (c : Cfg) (a : Nat) : Prop where
  address : ∀ v, Running i v → v.cfg = c → v.seq = a → FrameStep i v [0x00#8, c.regs.sdramCtrl] (goOn (a + 1))
  missed : ∀ v, Running i v → v.cfg = c → v.seq = a + 1 → ¬ bitIs (v.rxByte 1) c.sdram.doneMask c.sdram.doneLevel →
    FrameStep i v [0xC0#8, c.wire.ph] fun u => goOn (a + 2) { u with rx := v.rxByte 1 }
  delay : ∀ v, Running i v → v.cfg = c → v.seq = a + 2 → ¬ bitIs v.rx c.sdram.doneMask c.sdram.doneLevel →
    DelayStep i v c.sdram.pollDelayMs a

/-- The frames of an attempt. -/
def sdramAttempt (c : Cfg) : List (List Byte) := pollFrames c c.regs.sdramCtrl

/-- The events of `k` attempts that miss and their delays, the first frame being the `n`-th to come. -/
def missedEvents (s : State) (n k : Nat) : List Event :=
  (List.range k).flatMap fun j => windows s (n + 2 * j) (sdramAttempt s.cfg) ++ [.delay s.cfg.sdram.pollDelayMs]

theorem delayedPoll_eq (s : State) (n k : Nat) :
    delayedPoll s n k = missedEvents s n k ++ windows s (n + 2 * k) (sdramAttempt s.cfg) := rfl

theorem missedEvents_succ (s : State) (n k : Nat) : missedEvents s n (k + 1) =
    windows s n (sdramAttempt s.cfg) ++ [.delay s.cfg.sdram.pollDelayMs] ++ missedEvents s (n + 2) k := by
  have hindex (j : Nat) : n + 2 * (j + 1) = n + 2 + 2 * j := by omega
  simp [missedEvents, List.range_succ_eq_map, List.flatMap_map, hindex]

theorem Drew.missedEvents {n : Nat} {s u : State} (h : Drew n s u) (hcfg : u.cfg = s.cfg) (m k : Nat) :
    missedEvents u m k = missedEvents s (n + m) k := by
  simp only [Claim.missedEvents, hcfg, h.windows, Nat.add_assoc]

/-- `s` behind `k` attempts that missed and their delays; `RX` holds `b`. -/
def afterDelays (k : Nat) (b : Byte) (s : State) : State :=
  { s with
    trace := s.trace ++ missedEvents s 0 k
    rx := b
    timerIn := timerLeftAll k s.timerIn
    link := s.link.drop (2 * k)
    draws := s.draws + 2 * k }

theorem drew_afterDelays (k : Nat) (b : Byte) (s : State) : Drew (2 * k) s (afterDelays k b s) := ⟨rfl, rfl⟩

theorem afterDelays_zero (s : State) : afterDelays 0 s.rx s = s := by
  have htrace : s.trace ++ missedEvents s 0 0 = s.trace := List.append_nil _
  rw [afterDelays, htrace]
  rfl

/-- One more attempt before those. -/
theorem afterDelays_succ (k : Nat) (b b' : Byte) (s : State) :
    afterDelays k b (afterDelays 1 b' s) = afterDelays (k + 1) b s := by
  have hevents : missedEvents (afterDelays 1 b' s) 0 k = missedEvents s 2 k :=
    (drew_afterDelays 1 b' s).missedEvents rfl 0 k
  have htrace : s.trace ++ missedEvents s 0 1 ++ missedEvents s 2 k = s.trace ++ missedEvents s 0 (k + 1) := by
    rw [List.append_assoc, missedEvents_succ, missedEvents_succ]
    simp [missedEvents]
  have hlink : (s.link.drop (2 * 1)).drop (2 * k) = s.link.drop (2 * (k + 1)) := by
    rw [List.drop_drop, ← Nat.mul_add, Nat.add_comm]
  have hdraws : s.draws + 2 * 1 + 2 * k = s.draws + 2 * (k + 1) := by omega
  calc afterDelays k b (afterDelays 1 b' s)
    _ = { s with
          trace := s.trace ++ missedEvents s 0 1 ++ missedEvents (afterDelays 1 b' s) 0 k
          rx := b
          timerIn := timerLeftAll (k + 1) s.timerIn
          link := (s.link.drop (2 * 1)).drop (2 * k)
          draws := s.draws + 2 * 1 + 2 * k } := rfl
    _ = afterDelays (k + 1) b s := by rw [hevents, htrace, hlink, hdraws, afterDelays]

section

variable {i : Instr} {s : State} {a : Nat} (hloop : SdramLoop i s.cfg a)

include hloop

/-- One attempt that misses, with its delay. -/
theorem runs_sdramMiss (hrun : Running i s) (hreset : s.resetIn = []) (htimer : s.timer = none) (hseq : s.seq = a)
    (hclean : Clean 2 s) (hmiss : ¬ bitIs ((later 1 s).rxByte 1) s.cfg.sdram.doneMask s.cfg.sdram.doneLevel) :
    runs (2 + (timerTakes s.timerIn + 1)) s = .next (afterDelays 1 ((later 1 s).rxByte 1) s) := by
  have haddress := hloop.address s hrun rfl hseq
  have hread := hloop.missed (reached (a + 1) ((sdramAttempt s.cfg).take 1) s.rx s.tmp s.btePhase s) hrun rfl rfl hmiss
  have hattempt : runs 2 s =
      .next (reached (a + 2) (sdramAttempt s.cfg) ((later 1 s).rxByte 1) s.tmp s.btePhase s) :=
    calc runs 2 s
      _ = runs 1 (reached (a + 1) ((sdramAttempt s.cfg).take 1) s.rx s.tmp s.btePhase s) :=
          runs_frame haddress hrun hreset hclean.err
      _ = _ := runs_reached hread hrun hreset hclean
  rw [runs_add hattempt]
  have hdelay := runs_delay (s := reached (a + 2) (sdramAttempt s.cfg) ((later 1 s).rxByte 1) s.tmp s.btePhase s)
    (start := a) (ms := s.cfg.sdram.pollDelayMs) hrun hreset htimer fun v hv hseq hrx hcfg =>
      hloop.delay v hv hcfg hseq (hrx ▸ hmiss)
  refine hdelay.trans ?_
  subst hseq
  have htrace : missedEvents s 0 1 = windows s 0 (sdramAttempt s.cfg) ++ [.delay s.cfg.sdram.pollDelayMs] := by
    simp [missedEvents]
  rw [afterDelays, htrace, ← List.append_assoc]
  rfl

/-- The attempts that miss, a delay behind each. -/
theorem runs_sdramMisses {k : Nat} (hrun : Running i s) (hreset : s.resetIn = []) (htimer : s.timer = none)
    (hseq : s.seq = a) (hclean : Clean (2 * k) s)
    (hmiss : ∀ j, j < k → ¬ bitIs ((later (1 + 2 * j) s).rxByte 1) s.cfg.sdram.doneMask s.cfg.sdram.doneLevel) :
    ∃ b, runs (3 * k + timerTakesAll k s.timerIn) s = .next (afterDelays k b s) := by
  induction k generalizing s with
  | zero =>
    refine ⟨s.rx, ?_⟩
    rw [afterDelays_zero]
    rfl
  | succ k ih =>
    have hfirst := runs_sdramMiss hloop hrun hreset htimer hseq (hclean.mono (by omega)) (hmiss 0 k.succ_pos)
    have hdrew := drew_afterDelays 1 ((later 1 s).rxByte 1) s
    obtain ⟨b, hb⟩ := ih (s := afterDelays 1 ((later 1 s).rxByte 1) s) hloop hrun hreset htimer hseq
      (hdrew.clean (by rwa [← Nat.mul_add, Nat.add_comm 1])) fun j hj => by
        have hindex : 2 * 1 + (1 + 2 * j) = 1 + 2 * (j + 1) := by omega
        rw [(hdrew.later _).rxByte, hindex]
        exact hmiss (j + 1) (Nat.succ_lt_succ hj)
    refine ⟨b, ?_⟩
    have hcount : 3 * (k + 1) + timerTakesAll (k + 1) s.timerIn =
        2 + (timerTakes s.timerIn + 1) + (3 * k + timerTakesAll k (timerLeft s.timerIn)) := by
      rw [timerTakesAll]
      omega
    rw [hcount, runs_add hfirst]
    exact hb.trans (congrArg Host.Outcome.next (afterDelays_succ k b _ s))

end

/-! ### `INIT_MEM` -/

/-- The poll of `INIT_MEM` is such a loop. -/
theorem sdramLoop_initMem (c : Cfg) : SdramLoop .initMem c (sdramFrames c).length where
  address v hrun hcfg hseq := by
    subst hcfg
    have hpos := progInitMem_pos_address v.cfg
    rw [← hseq] at hpos ⊢
    exact frameStep_initMem_goOn _ hrun (startOp_initMem_later hseq.ge) hpos hseq.le rfl
  missed v hrun hcfg hseq hbit := by
    subst hcfg
    refine frameStep_sdramRead hrun hseq (next_poll_of_not_bitIs _ _ hbit) ?_
    rw [move, store_seq, afterFrame_seq, hseq]
    rfl
  delay v hrun hcfg hseq hbit := by
    subst hcfg
    exact delayStep_of_due hrun rfl (progInitMem_due_eq_some hseq hbit) hseq

/-- The attempt that hits completes the operation. -/
theorem frameStep_initMem_hit {s : State} (hrun : Running .initMem s) (hseq : s.seq = (sdramFrames s.cfg).length + 1)
    (hbit : bitIs (s.rxByte 1) s.cfg.sdram.doneMask s.cfg.sdram.doneLevel) :
    FrameStep .initMem s [0xC0#8, s.cfg.wire.ph] fun u =>
      done ((sdramFrames s.cfg).length + 2) .ok { u with rx := s.rxByte 1 } := by
  refine frameStep_sdramRead hrun hseq (next_poll_of_bitIs _ _ hbit) ?_
  rw [move, store_seq, afterFrame_seq, hseq, arrive_eq_done .initMem _ (progInitMem_pos_end s.cfg),
    progInitMem_marks_succ]
  rfl

/-- Settles O28: the attempts that miss, and the one that hits. -/
theorem sdramPollOfManyAttempts : Obligations.SdramPollOfManyAttempts := by
  rintro s k hrun hreset htimer hseq ⟨hmiss, hhit⟩ hclean
  obtain ⟨b, hb⟩ := runs_sdramMisses (sdramLoop_initMem s.cfg) hrun hreset htimer hseq (hclean.mono (by omega)) hmiss
  have hdrew := drew_afterDelays k b s
  have haddress := (sdramLoop_initMem s.cfg).address (afterDelays k b s) hrun rfl hseq
  have hread := frameStep_initMem_hit (s := reached ((sdramFrames s.cfg).length + 1) ((sdramAttempt s.cfg).take 1) b
    s.tmp s.btePhase (afterDelays k b s)) hrun rfl
  have hbyte : (later 1 (afterDelays k b s)).rxByte 1 = (later (2 * k + 1) s).rxByte 1 := (hdrew.later 1).rxByte 1
  rw [Nat.add_comm 1, ← hbyte] at hhit
  have hlast : runs 2 (afterDelays k b s) = .next (done ((sdramFrames s.cfg).length + 2) .ok
      (reached ((sdramFrames s.cfg).length + 2) (sdramAttempt s.cfg) ((later 1 (afterDelays k b s)).rxByte 1) s.tmp
        s.btePhase (afterDelays k b s))) :=
    calc runs 2 (afterDelays k b s)
      _ = runs 1 (reached ((sdramFrames s.cfg).length + 1) ((sdramAttempt s.cfg).take 1) b s.tmp s.btePhase
            (afterDelays k b s)) :=
          runs_frame haddress hrun hreset (hdrew.clean (m := 2) (by rwa [Nat.mul_succ] at hclean)).err
      _ = _ := runs_reached (hread hhit) hrun hreset (hdrew.clean (by rwa [Nat.mul_succ] at hclean))
  have hcount : 3 * k + 2 + timerTakesAll k s.timerIn = 3 * k + timerTakesAll k s.timerIn + 2 := by omega
  have hwindows : windows (afterDelays k b s) 0 (sdramAttempt s.cfg) = windows s (0 + 2 * k) (sdramAttempt s.cfg) := by
    rw [hdrew.windows, Nat.add_comm]
  rw [hcount, runs_add hb, hlast, hbyte, reached, afterFrames, hwindows, delayedPoll_eq, ← List.append_assoc,
    Nat.mul_succ 2 k, ← List.drop_drop]
  rfl

end Sys2Proof.Claim
end

section
/-! PROOFS. The whole bring-up: its readiness poll, its SDRAM writes and poll, the writes of its steps 3 to 12
(R143). -/

namespace Sys2Proof.Claim

open Sys2Proof Machine Operands

/-- A running `INIT_DISP` that began in `s` has sent `n` frames, whose events and delays are `es`, and stands at
position `k`; the timer's list is `ts`. -/
structure BringUpAt (s : State) (n : Nat) (es : List Event) (ts : List Bool) (k : Nat) (u : State) : Prop where
  running : Running .initDisp u
  resetIn : u.resetIn = []
  cfg : u.cfg = s.cfg
  drew : Drew n s u
  trace : u.trace = s.trace ++ es
  seq : u.seq = k
  timer : u.timer = none
  timerIn : u.timerIn = ts
  btePhase : u.btePhase = s.btePhase
  textOn : u.textOn = s.textOn
  tmp : u.tmp = s.tmp

namespace BringUpAt

variable {s u : State} {n k : Nat} {es : List Event} {ts : List Bool}

/-- More frames, which leave everything but position, `RX`, `lifecycle`, trace and ports. -/
theorem frames (h : BringUpAt s n es ts k u) (fs : List (List Byte)) (l : Nat) (b : Byte) (life : Lifecycle) :
    BringUpAt s (n + fs.length) (es ++ windows s n fs) ts l
      { afterFrames fs u with seq := l, rx := b, lifecycle := life } where
  running := h.running
  resetIn := h.resetIn
  cfg := h.cfg
  drew := h.drew.trans (drew_afterFrames fs u)
  trace := by
    change u.trace ++ windows u 0 fs = _
    rw [h.trace, h.drew.windows, List.append_assoc]
    rfl
  seq := rfl
  timer := h.timer
  timerIn := h.timerIn
  btePhase := h.btePhase
  textOn := h.textOn
  tmp := h.tmp

/-- Attempts of the SDRAM poll that missed, with their delays. -/
theorem delays (h : BringUpAt s n es ts k u) (j : Nat) (b : Byte) :
    BringUpAt s (n + 2 * j) (es ++ missedEvents s n j) (timerLeftAll j ts) k (afterDelays j b u) where
  running := h.running
  resetIn := h.resetIn
  cfg := h.cfg
  drew := h.drew.trans (drew_afterDelays j b u)
  trace := by
    change u.trace ++ missedEvents u 0 j = _
    rw [h.trace, h.drew.missedEvents h.cfg, List.append_assoc]
    rfl
  seq := h.seq
  timer := h.timer
  timerIn := congrArg (timerLeftAll j) h.timerIn
  btePhase := h.btePhase
  textOn := h.textOn
  tmp := h.tmp

end BringUpAt

/-! ### Its parts -/

section

variable {s u : State} {n : Nat} {es : List Event} {ts : List Bool}

/-- The readiness poll. -/
theorem runs_readiness {j : Nat} (h : BringUpAt s 0 [] ts 0 s)
    (hsees : PollSees s 0 1 j s.cfg.status.readyMask s.cfg.status.readyLevel) (hclean : Clean (j + 1) s) :
    ∃ v, runs (j + 1) s = .next v ∧
      BringUpAt s (j + 1) (windows s 0 (List.replicate (j + 1) [0x40#8, s.cfg.wire.ph])) ts 1 v := by
  obtain ⟨hmiss, hhit⟩ := hsees
  have hindex (k : Nat) : 0 + 1 * k = k := by omega
  obtain ⟨b, hb⟩ := runs_statusMisses (tx := [0x40#8, s.cfg.wire.ph]) (fun v hv hseq hcfg hbit => by
    rw [← hcfg] at hbit ⊢
    rw [h.seq]
    exact frameStep_ready_miss hv (hseq.trans h.seq) hbit) h.running h.resetIn (hclean.mono j.le_succ)
      fun k hk => hindex k ▸ hmiss k hk
  have hv : BringUpAt s j (windows s 0 (List.replicate j [0x40#8, s.cfg.wire.ph])) ts 0
      (afterMisses j [[0x40#8, s.cfg.wire.ph]] b s) := by
    have hframes := h.frames (List.replicate j [0x40#8, s.cfg.wire.ph]) 0 b s.lifecycle
    rw [List.length_replicate, Nat.zero_add, ← h.seq] at hframes
    rw [afterMisses_singleton, ← h.seq]
    exact hframes
  generalize afterMisses j [[0x40#8, s.cfg.wire.ph]] b s = v at hb hv
  rw [hindex, ← hv.drew.rxByte, ← hv.cfg] at hhit
  have hhit := frameStep_ready_hit hv.running hv.seq hhit
  rw [hv.cfg] at hhit
  refine ⟨_, (runs_add hb).trans (runs_frame hhit hv.running hv.resetIn (hv.drew.clean hclean).err), ?_⟩
  rw [List.replicate_succ', windows_append, List.length_replicate, Nat.zero_add]
  exact hv.frames [[0x40#8, s.cfg.wire.ph]] 1 (v.rxByte 1) .sdramInitializing

/-- The SDRAM writes. -/
theorem runs_sdramWrites (h : BringUpAt s n es ts 1 u) (hclean : Clean (n + (sdramFrames s.cfg).length) s) :
    ∃ v, runs (sdramFrames s.cfg).length u = .next v ∧
      BringUpAt s (n + (sdramFrames s.cfg).length) (es ++ windows s n (sdramFrames s.cfg)) ts
        ((sdramFrames s.cfg).length + 1) v := by
  have hrow := runs_row_goOn h.running h.resetIn (fs := sdramFrames s.cfg) h.seq (h.drew.clean hclean) le_rfl
    fun j tx hj htx => by
      rw [← h.cfg] at htx
      obtain ⟨-, hsteps⟩ := bringUpWritesInOrderAndConfigures
        (goOn (1 + j) (afterFrames ((sdramFrames s.cfg).take j) u))
      obtain ⟨-, -, hwrite, -⟩ := hsteps h.running _ rfl
      exact hwrite j tx rfl htx
  rw [List.take_length, Nat.add_comm 1] at hrow
  exact ⟨_, hrow, h.frames _ _ u.rx u.lifecycle⟩

/-- The poll of `INIT_DISP` is an SDRAM poll. -/
theorem sdramLoop_initDisp (c : Cfg) : SdramLoop .initDisp c ((sdramFrames c).length + 1) where
  address v hrun hcfg hseq := by
    subst hcfg
    obtain ⟨-, hsteps⟩ := bringUpWritesInOrderAndConfigures v
    obtain ⟨-, -, -, haddress, -⟩ := hsteps hrun _ rfl
    exact haddress hseq
  missed v hrun hcfg hseq hbit := by
    subst hcfg
    exact frameStep_initDisp_sdramRead hrun hseq
  delay v hrun hcfg hseq hbit := by
    subst hcfg
    exact delayStep_of_due hrun rfl (progInitDisp_due_eq_some hseq hbit) hseq

/-- The SDRAM poll. -/
theorem runs_sdramPoll {k : Nat} (h : BringUpAt s n es ts ((sdramFrames s.cfg).length + 1) u)
    (hsees : PollSees s (n + 1) 2 k s.cfg.sdram.doneMask s.cfg.sdram.doneLevel) (hclean : Clean (n + 2 * (k + 1)) s) :
    ∃ v, runs (3 * k + 2 + timerTakesAll k ts) u = .next v ∧
      bitIs v.rx s.cfg.sdram.doneMask s.cfg.sdram.doneLevel ∧
      BringUpAt s (n + 2 * (k + 1)) (es ++ delayedPoll s n k) (timerLeftAll k ts)
        ((sdramFrames s.cfg).length + 3) v := by
  obtain ⟨hmiss, -⟩ := h.drew.pollSees hsees
  have hloop : SdramLoop .initDisp u.cfg ((sdramFrames s.cfg).length + 1) := h.cfg ▸ sdramLoop_initDisp s.cfg
  have hcleanu := h.drew.clean hclean
  obtain ⟨b, hb⟩ := runs_sdramMisses (k := k) hloop h.running h.resetIn h.timer h.seq (hcleanu.mono (by omega))
    (by rwa [h.cfg])
  have hv := h.delays k b
  have hclean2 : Clean 2 (afterDelays k b u) := hv.drew.clean (by rwa [Nat.add_assoc, ← Nat.mul_succ])
  have hbyte := (hv.drew.later 1).rxByte 1
  generalize afterDelays k b u = v at hb hv hclean2 hbyte
  have haddress := (sdramLoop_initDisp s.cfg).address v hv.running hv.cfg hv.seq
  have hread := frameStep_initDisp_sdramRead
    (s := goOn ((sdramFrames s.cfg).length + 2) (afterFrames [[0x00#8, s.cfg.regs.sdramCtrl]] v)) hv.running
    (by rw [← hv.cfg]; rfl)
  have hcfg : (goOn ((sdramFrames s.cfg).length + 2) (afterFrames [[0x00#8, s.cfg.regs.sdramCtrl]] v)).cfg = s.cfg :=
    hv.cfg
  rw [hcfg] at hread
  have hlast : runs 2 v = .next { afterFrames (sdramAttempt s.cfg) v with
      seq := (sdramFrames s.cfg).length + 3, rx := (later 1 v).rxByte 1 } :=
    calc runs 2 v
      _ = runs 1 (goOn ((sdramFrames s.cfg).length + 2) (afterFrames [[0x00#8, s.cfg.regs.sdramCtrl]] v)) :=
          runs_frame haddress hv.running hv.resetIn hclean2.err
      _ = _ := by
          rw [runs_frame hread hv.running hv.resetIn
            ((drew_afterFrames [[0x00#8, s.cfg.regs.sdramCtrl]] v).clean (m := 1) hclean2).err, afterFrames_goOn,
            afterFrames_append]
          rfl
  have hcount : 3 * k + 2 + timerTakesAll k ts = 3 * k + timerTakesAll k u.timerIn + 2 := by
    rw [h.timerIn]
    omega
  rw [hcount]
  refine ⟨_, (runs_add hb).trans hlast, ?_, ?_⟩
  · have hindex : n + 2 * k + 1 = n + 1 + 2 * k := by omega
    obtain ⟨-, hhit⟩ := hsees
    rwa [hbyte, hindex]
  · rw [delayedPoll_eq, ← List.append_assoc, Nat.mul_succ, ← Nat.add_assoc]
    exact hv.frames (sdramAttempt s.cfg) _ _ v.lifecycle

end

/-- The writes of steps 3 to 12, and the end of the operation. -/
theorem runs_bringUp {u : State} (hrun : Running .initDisp u) (hreset : u.resetIn = [])
    (hseq : u.seq = (sdramFrames u.cfg).length + 3) (hbit : bitIs u.rx u.cfg.sdram.doneMask u.cfg.sdram.doneLevel)
    (hclean : Clean (bringUpFrames u.cfg).length u) :
    runs (bringUpFrames u.cfg).length u = .next (applyMarks (bringUpMarks u.cfg)
      (done ((sdramFrames u.cfg).length + 3 + (bringUpFrames u.cfg).length) .ok
        (afterFrames (bringUpFrames u.cfg) u))) := by
  exact runs_row (fin := fun l v => applyMarks (bringUpMarks u.cfg) (done l .ok v)) hrun hreset hseq hclean
    (bringUpFrames_length_pos u.cfg) fun j tx htx =>
      frameStep_bringUp (s := goOn ((sdramFrames u.cfg).length + 3 + j) (afterFrames ((bringUpFrames u.cfg).take j) u))
        hrun rfl htx fun _ => hbit

theorem applyMarks_bringUpMarks_frame (c : Cfg) (u : State) :
    (applyMarks (bringUpMarks c) u).lifecycle = .configured ∧
    (applyMarks (bringUpMarks c) u).btePhase = u.btePhase ∧ (applyMarks (bringUpMarks c) u).textOn = u.textOn := by
  unfold bringUpMarks
  cases lastWrite c.regs.dispCtrl c.steps.displayCtrl <;> exact ⟨rfl, rfl, rfl⟩

/-- Settles O27: the readiness poll, the SDRAM writes, the SDRAM poll, the writes of steps 3 to 12. -/
theorem bringUpRunsItsTwelveSteps : Obligations.BringUpRunsItsTwelveSteps := by
  rintro s j k hrun hseq hreset htimer pre rfl hready hdone hclean
  have hstart : BringUpAt s 0 [] s.timerIn 0 s :=
    ⟨hrun, hreset, rfl, ⟨rfl, rfl⟩, (List.append_nil _).symm, hseq, htimer, rfl, rfl, rfl, rfl⟩
  obtain ⟨s1, hruns1, h1⟩ := runs_readiness hstart hready (hclean.mono (by omega))
  obtain ⟨s2, hruns2, h2⟩ := runs_sdramWrites h1 (hclean.mono (by omega))
  obtain ⟨s3, hruns3, hbit, h3⟩ := runs_sdramPoll h2 hdone (hclean.mono (by omega))
  have hclean3 := h3.drew.clean hclean
  have hruns4 := runs_bringUp h3.running h3.resetIn (by rw [h3.seq, h3.cfg]) (by rwa [h3.cfg]) (by rwa [h3.cfg])
  have hframes := h3.frames (bringUpFrames s.cfg) 0 s3.rx s3.lifecycle
  rw [h3.cfg] at hruns4
  obtain ⟨hlife, hphase, htext⟩ := applyMarks_bringUpMarks_frame s.cfg
    (done ((sdramFrames s.cfg).length + 3 + (bringUpFrames s.cfg).length) .ok (afterFrames (bringUpFrames s.cfg) s3))
  have hruns : runs (j + 1 + (sdramFrames s.cfg).length + (3 * k + 2 + timerTakesAll k s.timerIn)) s = .next s3 :=
    (runs_add ((runs_add hruns1).trans hruns2)).trans hruns3
  rw [← Nat.add_assoc _ (3 * k + 2)] at hruns
  obtain ⟨-, -, hfault, hcs, -⟩ := hframes.running
  refine ⟨_, (runs_add hruns).trans hruns4, ?_, ?_, ?_, ?_, hlife, hphase.trans hframes.btePhase,
    htext.trans hframes.textOn, ?_, ?_, ?_, ?_, ?_⟩
  · rw [applyMarks_opv]
    rfl
  · rw [applyMarks_result]
    rfl
  · exact (applyMarks_fault _ _).trans hfault
  · exact (applyMarks_cs _ _).trans hcs
  · exact (applyMarks_tmp _ _).trans hframes.tmp
  · exact (applyMarks_timer _ _).trans hframes.timer
  · exact (applyMarks_timerIn _ _).trans hframes.timerIn
  · rw [applyMarks_seq]
    change (sdramFrames s.cfg).length + 3 + (bringUpFrames s.cfg).length = _
    omega
  · rw [applyMarks_trace, windows_append, List.length_replicate, Nat.zero_add]
    exact hframes.trace.trans (by simp only [List.append_assoc])

end Sys2Proof.Claim
end

section
/-! PROOFS. The block beside the reference target of D12: a step of the bench, and a whole `ENABLE_DISPLAY` on it (R25,
R127, R156). -/

namespace Sys2Proof.Claim

open Sys2Proof Machine Operands

/-! ### One step of the bench -/

/-- `s` with the target's answer to the frame `tx` at the bus port. -/
def wired (g : RefTarget) (tx : List Byte) (s : State) : State :=
  { s with link := [{ rx := (g.react tx).2, err := none }] }

theorem benchRun_step {b b' : Bench} (h : b.step = .next b') (n : Nat) : Bench.run (n + 1) b = Bench.run n b' := by
  rw [Bench.run, h]

section

variable {i : Instr} {s : State} {g : RefTarget} {tx : List Byte} {ok : State → State}

/-- A step of a running operation that is a frame. -/
theorem benchStep_running (hrun : Running i s) (hreset : s.resetIn = []) (hnext : nextFrame i s = some tx)
    (h : FrameStep i (wired g tx s) tx ok) :
    Bench.step { dev := s, tgt := g } =
      .next { dev := ok (afterFrame tx (wired g tx s)), tgt := (g.react tx).1 } := by
  have hstep : Machine.step (wired g tx s) = exec i (wired g tx s) := step_of_running (s := wired g tx s) hrun hreset
  obtain ⟨hopv, rfl, hfault, -, -⟩ := hrun
  obtain ⟨hok, -⟩ := h
  rw [hok rfl] at hstep
  have hupcoming : s.upcoming = some tx := by simp [State.upcoming, hreset, hfault, hopv, hnext]
  simp only [Bench.step, hupcoming]
  rw [← wired, hstep]

/-- The step that takes an operation from the host port, where it is a frame. -/
theorem benchStep_idle {rest : List Byte} (hreset : s.resetIn = []) (hfault : s.fault = false) (hopv : s.opv = false)
    (hdecode : decode s.hostIn = .done i rest) (hnext : nextFrame i (s.present i rest) = some tx)
    (h : FrameStep i (wired g tx (s.present i rest)) tx ok) :
    Bench.step { dev := s, tgt := g } =
      .next { dev := ok (afterFrame tx (wired g tx (s.present i rest))), tgt := (g.react tx).1 } := by
  obtain ⟨hok, -⟩ := h
  have hstep : Machine.step (wired g tx s) = exec i (wired g tx (s.present i rest)) := by
    have hread : (wired g tx s).resetIn.headD false = false := by simp [wired, hreset]
    have hs : { wired g tx s with resetIn := (wired g tx s).resetIn.tail } = wired g tx s := by
      simp [wired, hreset]
    rw [step_eq_takeOperation hread hfault hopv, hs,
      takeOperation_done (s := wired g tx s) hdecode]
    rfl
  rw [hok rfl] at hstep
  have hupcoming : s.upcoming = some tx := by simp [State.upcoming, hreset, hfault, hopv, hdecode, hnext]
  simp only [Bench.step, hupcoming]
  rw [← wired, hstep]

end

/-! ### The target -/

section

variable (g : RefTarget)

theorem react_datw (d : Byte) : (g.react [0x80#8, d]).1 = { g with
    log := g.log ++ [[0x80#8, d]]
    reg := fun a => if a = g.ptr then d else g.reg a
    dataLog := fun a => if a = g.ptr then g.dataLog a ++ [d] else g.dataLog a } := rfl

theorem react_datr (p : Byte) (h : g.readScript g.ptr = []) :
    g.react [0xC0#8, p] = ({ g with log := g.log ++ [[0xC0#8, p]] }, [0x00#8, g.reg g.ptr]) := by
  simp [RefTarget.react, modeCmdw, modeDatw, modeDatr, h]

end

/-! ### `ENABLE_DISPLAY` on the bench -/

section

variable {e : Bool} {s u v : State} {g h : RefTarget} {rest : List Byte} {k : Nat}

/-- A running `ENABLE_DISPLAY e` that began with block `s` and target `g`, with `rest` behind its host word, has sent
`k` frames, the address first: block `u` and target `h`. -/
structure Toggling (e : Bool) (s : State) (g : RefTarget) (rest : List Byte) (k : Nat) (u : State) (h : RefTarget) :
    Prop where
  running : Running (.enableDisplay e) u
  seq : u.seq = k
  tmp : 2 ≤ k → u.tmp = g.reg s.cfg.regs.dispCtrl
  resetIn : u.resetIn = []
  hostIn : u.hostIn = rest
  cfg : u.cfg = s.cfg
  testOn : u.testOn = s.testOn
  ptr : 1 ≤ k → h.ptr = s.cfg.regs.dispCtrl
  reg : h.reg = g.reg
  readScript : h.readScript = g.readScript

/-- The positions of `ENABLE_DISPLAY`, and that the bench sees their frames coming. -/
theorem nextFrame_enableDisplay {m : Micro} (hseq : u.seq = k)
    (hpos : (progEnableDisplay u.cfg e).pos k = some m) : nextFrame (.enableDisplay e) u = some (m.act.tx u) := by
  subst hseq
  exact nextFrame_pos ((rmwb_mark_framesOnly _ _ _ _ _).due u) hpos

/-- The last position of `ENABLE_DISPLAY`, with the byte it writes. -/
theorem frameStep_enableDisplay_write (hrun : Running (.enableDisplay e) u) (hseq : u.seq = 3) :
    FrameStep (.enableDisplay e) u [0x80#8, rmw u.tmp u.cfg.display.onMask e] fun v =>
      { done 4 .ok v with dispOn := if e then .on else .off } :=
  frameStep_last { act := .datwRmw u.cfg.display.onMask e } hrun rfl (rmwb_mark_framesOnly _ _ _ _ _) hseq

/-- The address, at the start and again before the write: block and target behind it. -/
theorem Toggling.address (ht : Toggling e s g rest k u h) (hk : k = 0 ∨ k = 2) :
    Toggling e s g rest (k + 1) (goOn (k + 1) (afterFrame [0x00#8, u.cfg.regs.dispCtrl]
      (wired h [0x00#8, u.cfg.regs.dispCtrl] u))) (h.react [0x00#8, u.cfg.regs.dispCtrl]).1 where
  running := ht.running
  seq := rfl
  tmp := fun hle => ht.tmp (by omega)
  resetIn := ht.resetIn
  hostIn := ht.hostIn
  cfg := ht.cfg
  testOn := ht.testOn
  ptr := fun _ => congrArg (fun c => c.regs.dispCtrl) ht.cfg
  reg := ht.reg
  readScript := ht.readScript

/-- The frame of the address comes next, and the operation goes on behind it. -/
theorem Toggling.sends_address (ht : Toggling e s g rest k u h) (hk : k = 0 ∨ k = 2) :
    nextFrame (.enableDisplay e) u = some [0x00#8, u.cfg.regs.dispCtrl] ∧
      ∀ tx, FrameStep (.enableDisplay e) (wired h tx u) [0x00#8, u.cfg.regs.dispCtrl] (goOn (k + 1)) := by
  have hframes := rmwb_mark_framesOnly u.cfg.wire.ph u.cfg.regs.dispCtrl u.cfg.display.onMask e (.dispOn e)
  obtain rfl | rfl := hk
  · exact ⟨nextFrame_enableDisplay (m := { act := .cmdw u.cfg.regs.dispCtrl }) ht.seq rfl, fun tx =>
      frameStep_goOn (s := wired h tx u) { act := .cmdw u.cfg.regs.dispCtrl } ht.running rfl hframes ht.seq⟩
  · exact ⟨nextFrame_enableDisplay (m := { act := .cmdw u.cfg.regs.dispCtrl }) ht.seq rfl, fun tx =>
      frameStep_goOn (s := wired h tx u) { act := .cmdw u.cfg.regs.dispCtrl } ht.running rfl hframes ht.seq⟩

/-- The read: the target answers with its register, which `TMP` keeps. -/
theorem Toggling.read (ht : Toggling e s g rest 1 u h) (hscript : g.readScript s.cfg.regs.dispCtrl = []) :
    ∃ v h', Toggling e s g rest 2 v h' ∧ Bench.step { dev := u, tgt := h } = .next { dev := v, tgt := h' } := by
  have hframes := rmwb_mark_framesOnly u.cfg.wire.ph u.cfg.regs.dispCtrl u.cfg.display.onMask e (.dispOn e)
  have hreact : h.react [0xC0#8, u.cfg.wire.ph] = _ :=
    react_datr h u.cfg.wire.ph (by rwa [ht.ptr le_rfl, ht.readScript])
  have hbyte : (wired h [0xC0#8, u.cfg.wire.ph] u).rxByte 1 = g.reg s.cfg.regs.dispCtrl := by
    rw [State.rxByte, State.answer, wired, hreact, ← ht.ptr le_rfl, ← ht.reg]
    rfl
  refine ⟨_, _, ?_, benchStep_running ht.running ht.resetIn
    (nextFrame_enableDisplay (m := { act := .datr u.cfg.wire.ph, save := true }) ht.seq rfl)
    (frameStep_goOn (s := wired h [0xC0#8, u.cfg.wire.ph] u) { act := .datr u.cfg.wire.ph, save := true } ht.running rfl
      hframes ht.seq)⟩
  exact {
    running := ht.running
    seq := rfl
    tmp := fun _ => hbyte
    resetIn := ht.resetIn
    hostIn := ht.hostIn
    cfg := ht.cfg
    testOn := ht.testOn
    ptr := fun _ => (congrArg (fun r => r.1.ptr) hreact).trans (ht.ptr le_rfl)
    reg := (congrArg (fun r => r.1.reg) hreact).trans ht.reg
    readScript := (congrArg (fun r => r.1.readScript) hreact).trans ht.readScript }

/-- What a whole `ENABLE_DISPLAY e` leads to: from block `s` and target `g`, with `rest` behind its host word, to block
`v` and target `h`. -/
structure Toggled (e : Bool) (s : State) (g : RefTarget) (rest : List Byte) (v : State) (h : RefTarget) : Prop where
  opv : v.opv = false
  fault : v.fault = false
  cs : v.cs = true
  resetIn : v.resetIn = []
  hostIn : v.hostIn = rest
  cfg : v.cfg = s.cfg
  result : v.result = .ok
  dispOn : v.dispOn = if e then .on else .off
  testOn : v.testOn = s.testOn
  reg : h.reg = fun a =>
    if a = s.cfg.regs.dispCtrl then rmw (g.reg s.cfg.regs.dispCtrl) s.cfg.display.onMask e else g.reg a
  readScript : h.readScript = g.readScript

/-- The write ends the operation. -/
theorem Toggling.write (ht : Toggling e s g rest 3 u h) :
    ∃ v h', Toggled e s g rest v h' ∧ Bench.step { dev := u, tgt := h } = .next { dev := v, tgt := h' } := by
  obtain ⟨-, -, hfault, hcs, -⟩ := ht.running
  refine ⟨_, _, ?_, benchStep_running ht.running ht.resetIn
    (nextFrame_enableDisplay (m := { act := .datwRmw u.cfg.display.onMask e }) ht.seq rfl)
    (frameStep_enableDisplay_write (u := wired h [0x80#8, rmw u.tmp u.cfg.display.onMask e] u) ht.running ht.seq)⟩
  have hbyte : rmw u.tmp u.cfg.display.onMask e = rmw (g.reg s.cfg.regs.dispCtrl) s.cfg.display.onMask e := by
    rw [ht.tmp (by decide), ht.cfg]
  have hreg : (h.react [0x80#8, rmw u.tmp u.cfg.display.onMask e]).1.reg = fun a =>
      if a = s.cfg.regs.dispCtrl then rmw (g.reg s.cfg.regs.dispCtrl) s.cfg.display.onMask e else g.reg a := by
    rw [react_datw, hbyte, ht.reg, ht.ptr (by decide)]
  exact {
    opv := rfl
    fault := hfault
    cs := hcs
    resetIn := ht.resetIn
    hostIn := ht.hostIn
    cfg := ht.cfg
    result := rfl
    dispOn := rfl
    testOn := ht.testOn
    reg := hreg
    readScript := ht.readScript }

end

/-- A whole `ENABLE_DISPLAY e` of an idle block. -/
theorem toggle_on_bench {s : State} {g : RefTarget} {e : Bool} {rest : List Byte} (hreset : s.resetIn = [])
    (hfault : s.fault = false) (hopv : s.opv = false) (hcs : s.cs = true)
    (hmask : WellFormed.oneBit s.cfg.display.onMask = true)
    (hhost : s.hostIn = [0x30#8, if e then 1#8 else 0#8] ++ rest) (hscript : g.readScript s.cfg.regs.dispCtrl = []) :
    ∃ v h, Toggled e s g rest v h ∧
      ∀ n, Bench.run (n + 4) { dev := s, tgt := g } = Bench.run n { dev := v, tgt := h } := by
  have hcheck : WellFormed.check s.cfg (.enableDisplay e) = none := by
    simp [WellFormed.check, WellFormed.broken, WellFormed.need, hmask]
  obtain ⟨⟨⟨-, hdecode⟩, -⟩, -⟩ := togglesWriteBackAllOtherBits s e
  have h0 : Toggling e s g rest 0 (s.present (.enableDisplay e) rest) g :=
    ⟨⟨rfl, rfl, hfault, hcs, hcheck⟩, rfl, fun h => absurd h (by decide), hreset, rfl, rfl, rfl,
      fun h => absurd h (by decide), rfl, rfl⟩
  obtain ⟨hnext, hstep⟩ := h0.sends_address (.inl rfl)
  have hrun1 := benchStep_idle hreset hfault hopv (hhost ▸ hdecode rest) hnext (hstep _)
  have h1 := h0.address (.inl rfl)
  obtain ⟨u2, g2, h2, hrun2⟩ := h1.read hscript
  obtain ⟨hnext, hstep⟩ := h2.sends_address (.inr rfl)
  have hrun3 := benchStep_running h2.running h2.resetIn hnext (hstep _)
  have h3 := h2.address (.inr rfl)
  obtain ⟨v, h, h4, hrun4⟩ := h3.write
  refine ⟨v, h, h4, fun n => ?_⟩
  rw [benchRun_step hrun1 (n + 3), benchRun_step hrun2 (n + 2), benchRun_step hrun3 (n + 1), benchRun_step hrun4 n]

/-- Settles O56: the second write clears the display bit of what the first one wrote, which differs from the register's
byte in that bit alone. -/
theorem toggleOnThenOffRestoresOtherBits : Obligations.ToggleOnThenOffRestoresOtherBits := by
  intro d g rest hreset hfault hopv hcs hmask hhost hscript
  obtain ⟨s1, g1, h1, hrun1⟩ := toggle_on_bench (e := true) hreset hfault hopv hcs hmask hhost hscript
  obtain ⟨s2, g2, h2, hrun2⟩ := toggle_on_bench (s := s1) (g := g1) (e := false) (rest := rest) h1.resetIn h1.fault
    h1.opv h1.cs (by rwa [h1.cfg]) h1.hostIn (by rwa [h1.cfg, h1.readScript])
  refine ⟨{ dev := s2, tgt := g2 }, (hrun1 4).trans (hrun2 0), ?_, fun a ha => ?_, h2.dispOn, h2.testOn.trans h1.testOn,
    h2.opv, h2.result, h2.hostIn⟩
  · simp only [h2.reg, h1.cfg, h1.reg, if_pos]
    exact rmw_and_not (g.reg d.cfg.regs.dispCtrl) d.cfg.display.onMask true
  · simp only [h2.reg, h1.cfg, h1.reg, if_neg ha]

end Sys2Proof.Claim
end

section
/-! PROOFS. No operation reads `RX` or `TMP` before writing it: what each expansion has read before it tests, returns or
writes back a byte, and two runs that differ in the two registers only (R14, R127, R240). -/

namespace Sys2Proof.Machine

open Sys2Proof Claim Operands

/-! ### What an expansion has read -/

/-- Some position before `k` reads: `RX` then holds a byte of this operation. -/
def Prog.ReadBefore (p : Prog) (k : Nat) : Prop := ∃ j m, j < k ∧ p.pos j = some m ∧ m.act.reads = true

/-- Some position before `k` keeps its byte in `TMP`. -/
def Prog.SavedBefore (p : Prog) (k : Nat) : Prop := ∃ j m, j < k ∧ p.pos j = some m ∧ m.save = true

section

variable {p : Prog} {k l : Nat}

theorem Prog.ReadBefore.mono (h : p.ReadBefore k) (hkl : k ≤ l) : p.ReadBefore l := by
  obtain ⟨j, m, hj, hpos, hreads⟩ := h
  exact ⟨j, m, hj.trans_le hkl, hpos, hreads⟩

theorem Prog.SavedBefore.mono (h : p.SavedBefore k) (hkl : k ≤ l) : p.SavedBefore l := by
  obtain ⟨j, m, hj, hpos, hsave⟩ := h
  exact ⟨j, m, hj.trans_le hkl, hpos, hsave⟩

theorem Prog.readBefore_succ {m : Micro} (hpos : p.pos k = some m) (h : p.ReadBefore (k + 1)) :
    m.act.reads = true ∨ p.ReadBefore k := by
  obtain ⟨j, m', hj, hpos', hreads⟩ := h
  obtain hj | rfl := Nat.lt_succ_iff_lt_or_eq.mp hj
  · exact .inr ⟨j, m', hj, hpos', hreads⟩
  · rw [hpos] at hpos'
    exact .inl (Option.some.inj hpos' ▸ hreads)

theorem Prog.savedBefore_succ {m : Micro} (hpos : p.pos k = some m) (h : p.SavedBefore (k + 1)) :
    m.save = true ∨ p.SavedBefore k := by
  obtain ⟨j, m', hj, hpos', hsave⟩ := h
  obtain hj | rfl := Nat.lt_succ_iff_lt_or_eq.mp hj
  · exact .inr ⟨j, m', hj, hpos', hsave⟩
  · rw [hpos] at hpos'
    exact .inl (Option.some.inj hpos' ▸ hsave)

/-- Behind the end of an expansion all of it has been sent. -/
theorem Prog.lt_of_pos {j : Nat} {m : Micro} (hpos : p.pos j = some m) (hend : p.pos k = none) : j < k := by
  have hj := (p.pos_isSome j).mp (by rw [hpos]; rfl)
  exact hj.trans_le ((p.pos_eq_none k).mp hend)

end

section

variable {c : Cfg} {i : Instr} {k : Nat} {m : Micro}

/-- A poll tests the byte it has just read (R124, R125, R141). -/
theorem reads_of_poll (hcheck : WellFormed.check c i = none) (hpos : (expansion c i).pos k = some m) :
    m.act.reads = true ∨ m.ctl = .go (.fwd 1) := by
  obtain ⟨-, -, hgo, -⟩ | ⟨-, h⟩ := position_cases hcheck hpos
  · exact .inr hgo
  · cases h with
    | rmwWrite => exact .inr rfl
    | pollRead | statusRead | sdramRead | keptRead => exact .inl rfl

end

/-- The positions of a read-modify-write: the byte kept in `TMP` comes before the one written back (R127). -/
theorem rmwb_savedBefore {q : Prog} {ph a mask mask' : Byte} {e e' : Bool} {g : Mark} {k : Nat}
    (hq : plain (.datwRmw mask' e') ∉ q)
    (hpos : Prog.pos (q ++ (rmwb ph a mask e ++ [.mark g])) k = some { act := .datwRmw mask' e' }) :
    Prog.SavedBefore (q ++ (rmwb ph a mask e ++ [.mark g])) k := by
  rcases Nat.lt_or_ge k q.size with hk | hk
  · rw [Prog.pos_append, if_pos hk] at hpos
    exact absurd (Prog.mem_of_pos hpos) hq
  · obtain ⟨l, rfl⟩ := Nat.exists_eq_add_of_le hk
    rw [Prog.pos_append, if_neg (by omega), Nat.add_sub_cancel_left] at hpos
    obtain _ | _ | l := l
    · cases hpos
    · cases hpos
    · refine ⟨q.size + 1, { act := .datr ph, save := true }, by omega, ?_, rfl⟩
      rw [Prog.pos_append, if_neg (by omega), Nat.add_sub_cancel_left]
      rfl

theorem fillWriters_ordinary (c : Cfg) (r g b colr setup : Byte) :
    (fillWriters c r g b colr setup).all Item.ordinary = true := rfl

section

variable {c : Cfg} {i : Instr} {k : Nat} {m : Micro}

/-- A byte is written back with a bit changed only after it was kept in `TMP` (R127). -/
theorem savedBefore_of_datwRmw (hcheck : WellFormed.check c i = none) {mask : Byte} {e : Bool}
    (hpos : (expansion c i).pos k = some m) (hact : m.act = .datwRmw mask e) :
    (expansion c i).SavedBefore k := by
  obtain ⟨-, -, -, hno⟩ | ⟨hmem, h⟩ := position_cases hcheck hpos
  · exact absurd hact (hno mask e)
  obtain rfl : m = { act := .datwRmw mask e } := by
    cases h with
    | rmwWrite mask' e' => exact congrArg (Micro.mk · false (.go (.fwd 1))) hact
    | pollRead | statusRead | sdramRead | keptRead => cases hact
  cases i
  case enableDisplay | enableTestPattern | enableTextMode | bteStart =>
    exact rmwb_savedBefore (q := []) List.not_mem_nil hpos
  case fill r g b =>
    obtain ⟨colr, setup, hcolr, hsetup⟩ := fill_codes hcheck
    rw [expansion, progFill_eq r g b hcolr hsetup] at hpos ⊢
    refine rmwb_savedBefore (fun hq => ?_) hpos
    have hord := List.all_eq_true.mp (fillWriters_ordinary c r g b colr setup) _ hq
    cases hord
  all_goals simp [specialLines, sdramRead, pollRead, statusRead, readyRead, keptRead] at hmem

/-- A result reads `RX` and `TMP` only where the operation has read and kept a byte (R82, R126). -/
theorem resultOf_eq_of_read {s t : State} (hend : (expansion c i).pos k = none)
    (hrx : (expansion c i).ReadBefore k → s.rx = t.rx) (htmp : (expansion c i).SavedBefore k → s.tmp = t.tmp) :
    resultOf i s = resultOf i t := by
  have hbyte {j : Nat} {m : Micro} (hpos : (expansion c i).pos j = some m) (hreads : m.act.reads = true) :
      s.rx = t.rx := hrx ⟨j, m, Prog.lt_of_pos hpos hend, hpos, hreads⟩
  cases i
  case frameStatusRead | frameDataRead | stsr | datr => exact congrArg Result.okByte (hbyte (j := 0) rfl rfl)
  case rd8 => exact congrArg Result.okByte (hbyte (j := 1) rfl rfl)
  case getTextCursorY =>
    have hkept : s.tmp = t.tmp :=
      htmp ⟨1, keptRead c, Prog.lt_of_pos (p := expansion c .getTextCursorY) rfl hend, rfl, rfl⟩
    exact congrArg₂ (fun h l => Result.okHalf (half h l)) (hbyte (j := 1) rfl rfl) hkept
  all_goals rfl

end

/-! ### Two states that differ in the data registers -/

/-- `s` with other bytes in `RX` and `TMP`. -/
def withData (rx tmp : Byte) (s : State) : State := { s with rx := rx, tmp := tmp }

/-- `v` is `u` but for the data registers, and each of the two is the same where the operation with expansion `p` has
written it. -/
def DataAlike (p : Prog) (u v : State) : Prop :=
  ∃ rx tmp, v = withData rx tmp u ∧ (p.ReadBefore u.seq → rx = u.rx) ∧ (p.SavedBefore u.seq → tmp = u.tmp)

section

variable (rx tmp : Byte) (s : State)

theorem applyMarks_withData (gs : List Mark) :
    applyMarks gs (withData rx tmp s) = withData rx tmp (applyMarks gs s) := by
  induction gs generalizing s with
  | nil => rfl
  | cons g gs ih =>
    have hmark : applyMark (withData rx tmp s) g = withData rx tmp (applyMark s g) := by cases g <;> rfl
    rw [applyMarks_cons, hmark, ih, applyMarks_cons]

theorem startOp_withData (p : Prog) : startOp p (withData rx tmp s) = withData rx tmp (startOp p s) := by
  by_cases hseq : s.seq = 0
  · rw [startOp, if_pos (show (withData rx tmp s).seq = 0 from hseq), applyMarks_withData, startOp, if_pos hseq]
  · rw [startOp_later p hseq, startOp_later p (show (withData rx tmp s).seq ≠ 0 from hseq)]

theorem frameSent_withData (tx : List Byte) : frameSent tx (withData rx tmp s) = withData rx tmp (frameSent tx s) := by
  rw [frameSent, xfersFrom_congr (s := withData rx tmp s) (t := s) rfl rfl]
  rfl

theorem frameFailed_withData (e : LinkError) (tx : List Byte) :
    frameFailed e tx (withData rx tmp s) = withData rx tmp (frameFailed e tx s) := by
  rw [frameFailed, xfersFrom_congr (s := withData rx tmp s) (t := s) rfl rfl]
  rfl

theorem store_withData (m : Micro) (b : Byte) : store m b (withData rx tmp s) =
    withData (if m.act.reads then b else rx) (if m.save then b else tmp) (store m b s) := rfl

theorem delayStep_withData (ms n : Nat) : delayStep ms n (withData rx tmp s) = withData rx tmp (delayStep ms n s) := by
  have htimer : (withData rx tmp s).timer = s.timer := rfl
  have htimerIn : (withData rx tmp s).timerIn = s.timerIn := rfl
  unfold delayStep timerStep
  rw [htimer, htimerIn]
  split
  · rfl
  · split <;> rfl

/-- A step while a delay is due does not go on, and leaves the data registers. -/
theorem delayStep_data (ms n : Nat) : (delayStep ms n s).seq ≤ s.seq ∧ (delayStep ms n s).rx = s.rx ∧
    (delayStep ms n s).tmp = s.tmp := by
  obtain ⟨-, h⟩ | ⟨-, -, h⟩ | ⟨-, -, h⟩ := delayStep_cases ms n s <;> simp [h]

end

section

variable {c : Cfg} {i : Instr} {s : State} {rx tmp : Byte}

/-- Completion, where the bytes the result needs have been read. -/
theorem complete_withData (hend : (expansion c i).pos s.seq = none)
    (hrx : (expansion c i).ReadBefore s.seq → rx = s.rx) (htmp : (expansion c i).SavedBefore s.seq → tmp = s.tmp) :
    complete (resultOf i) (withData rx tmp s) = withData rx tmp (complete (resultOf i) s) := by
  have hres : resultOf i (withData rx tmp s) = resultOf i s := resultOf_eq_of_read (c := c) hend hrx htmp
  rw [complete, hres]
  rfl

/-- Arriving at a position, or at the end with the bytes the result needs. -/
theorem arrive_withData {k : Nat} (hrx : (expansion c i).ReadBefore k → rx = s.rx)
    (htmp : (expansion c i).SavedBefore k → tmp = s.tmp) : arrive (expansion c i) (resultOf i) k (withData rx tmp s) =
      withData rx tmp (arrive (expansion c i) (resultOf i) k s) := by
  have hmarks : applyMarks ((expansion c i).marks k) (goOn k (withData rx tmp s)) =
      withData rx tmp (applyMarks ((expansion c i).marks k) (goOn k s)) := applyMarks_withData rx tmp (goOn k s) _
  unfold arrive
  rw [← goOn, ← goOn, hmarks]
  cases hpos : (expansion c i).pos k with
  | some m => rfl
  | none =>
    refine complete_withData (c := c) ?_ (fun h => ?_) fun h => ?_
    · rwa [applyMarks_seq]
    · rw [applyMarks_seq] at h
      exact (hrx h).trans (applyMarks_rx (goOn k s) _).symm
    · rw [applyMarks_seq] at h
      exact (htmp h).trans (applyMarks_tmp (goOn k s) _).symm

/-- A move by at most one. -/
theorem move_dataAlike {mv : Move} (hmv : mv = .fwd 1 ∨ (∃ n, mv = .back n) ∨ ∃ ms n, mv = .wait ms n)
    (hrx : (expansion c i).ReadBefore (s.seq + 1) → rx = s.rx)
    (htmp : (expansion c i).SavedBefore (s.seq + 1) → tmp = s.tmp) :
    DataAlike (expansion c i) (move (expansion c i) (resultOf i) mv s)
      (move (expansion c i) (resultOf i) mv (withData rx tmp s)) := by
  obtain rfl | ⟨n, rfl⟩ | ⟨ms, n, rfl⟩ := hmv
  · refine ⟨rx, tmp, arrive_withData hrx htmp, fun h => ?_, fun h => ?_⟩
    · rw [move_fwd_seq] at h
      exact (hrx h).trans (move_rx _ _ _ _).symm
    · rw [move_fwd_seq] at h
      exact (htmp h).trans (move_tmp _ _ _ _).symm
  · have hle : s.seq - n ≤ s.seq + 1 := by omega
    exact ⟨rx, tmp, rfl, fun h => hrx (h.mono hle), fun h => htmp (h.mono hle)⟩
  · exact ⟨rx, tmp, rfl, hrx, htmp⟩

end

section

variable {c : Cfg} {i : Instr} {s : State} {rx tmp : Byte} (hcheck : WellFormed.check c i = none)
  (hrx : (expansion c i).ReadBefore s.seq → rx = s.rx) (htmp : (expansion c i).SavedBefore s.seq → tmp = s.tmp)

include hcheck hrx

/-- The delay that is due depends on a byte the operation has read. -/
theorem due_withData : (expansion c i).due (withData rx tmp s) = (expansion c i).due s := by
  by_cases hread : (expansion c i).ReadBefore s.seq
  · exact Prog.due_congr _ rfl (hrx hread)
  · have hnone (u : State) (hu : u.seq = s.seq) : (expansion c i).due u = none := by
      cases hdue : (expansion c i).due u with
      | none => rfl
      | some d =>
        obtain ⟨k, m, mask, t, hit, hseq, hpos, hctl, -⟩ := Prog.due_eq_some.mp hdue
        obtain hreads | hgo := reads_of_poll hcheck hpos
        · exact absurd ⟨k, m, by omega, hpos, hreads⟩ hread
        · rw [hgo] at hctl
          cases hctl
    rw [hnone (withData rx tmp s) rfl, hnone s rfl]

include htmp

/-- A frame position, whose bytes, move and result depend on bytes the operation has read. -/
theorem runFrame_dataAlike {m : Micro} (hpos : (expansion c i).pos s.seq = some m) :
    DataAlike (expansion c i) (runFrame (expansion c i) (resultOf i) m s)
      (runFrame (expansion c i) (resultOf i) m (withData rx tmp s)) := by
  have htx : m.act.tx (withData rx tmp s) = m.act.tx s := by
    cases hact : m.act with
    | datwRmw mask e =>
      have hkept := htmp (savedBefore_of_datwRmw hcheck hpos hact)
      exact congrArg (fun b => [modeDatw, rmw b mask e]) hkept
    | cmdw | datw | datwb | datr | stsr => rfl
  have hbyte : (withData rx tmp s).rxByte 1 = s.rxByte 1 := rfl
  cases herr : s.answer.err with
  | some e =>
    rw [runFrame, runFrame, frame_err _ _ herr, frame_err (s := withData rx tmp s) _ _ herr, htx, frameFailed_withData]
    exact ⟨rx, tmp, rfl, hrx, htmp⟩
  | none =>
    have hmove : m.ctl.next (if m.act.reads then s.rxByte 1 else rx) = m.ctl.next (m.rxAfter s) := by
      obtain hreads | hgo := reads_of_poll hcheck hpos
      · rw [Micro.rxAfter, if_pos hreads, if_pos hreads]
      · rw [hgo]
        rfl
    have hone : m.ctl.next (m.rxAfter s) = .fwd 1 ∨ (∃ n, m.ctl.next (m.rxAfter s) = .back n) ∨
        ∃ ms n, m.ctl.next (m.rxAfter s) = .wait ms n := by
      obtain h | ⟨-, -, n, -, -, h⟩ | ⟨-, -, h⟩ := next_cases hcheck hpos (m.rxAfter s)
      · exact .inl h
      · exact .inr (.inl ⟨n, h⟩)
      · exact .inr (.inr ⟨_, _, h⟩)
    rw [runFrame, runFrame, frame_ok _ _ herr, frame_ok (s := withData rx tmp s) _ _ herr, htx, hbyte,
      frameSent_withData, store_withData, follow_eq_move_next, follow_eq_move_next]
    change DataAlike _ (move _ _ (m.ctl.next (m.rxAfter s)) _)
      (move _ _ (m.ctl.next (if m.act.reads then s.rxByte 1 else rx)) _)
    rw [hmove]
    refine move_dataAlike hone (fun h => ?_) fun h => ?_
    · obtain hreads | h := Prog.readBefore_succ hpos h
      · simp [store, hreads]
      · simp [store, hrx h]
    · obtain hsave | h := Prog.savedBefore_succ hpos h
      · simp [store, hsave]
      · simp [store, htmp h]

end

/-- One step of an operation, from two states that differ in the data registers. -/
theorem exec_dataAlike {i : Instr} {u v : State} (h : DataAlike (expansion u.cfg i) u v) :
    Alike (DataAlike (expansion u.cfg i)) (exec i u) (exec i v) := by
  obtain ⟨rx, tmp, rfl, hrx, htmp⟩ := h
  have hcfg : (withData rx tmp u).cfg = u.cfg := rfl
  have hseq : (withData rx tmp u).seq = u.seq := rfl
  rw [exec_eq_perform, exec_eq_perform, hcfg]
  unfold perform runMicro
  rw [hcfg, hseq]
  cases hcheck : WellFormed.check u.cfg i with
  | some c => rfl
  | none =>
    rw [due_withData hcheck hrx]
    cases (expansion u.cfg i).due u with
    | some d =>
      obtain ⟨hle, hrx', htmp'⟩ := delayStep_data u d.1 d.2
      exact ⟨rx, tmp, delayStep_withData rx tmp u d.1 d.2, fun h => (hrx (h.mono hle)).trans hrx'.symm,
        fun h => (htmp (h.mono hle)).trans htmp'.symm⟩
    | none =>
      have hrx' : (expansion u.cfg i).ReadBefore (startOp (expansion u.cfg i) u).seq →
          rx = (startOp (expansion u.cfg i) u).rx := by simpa using hrx
      have htmp' : (expansion u.cfg i).SavedBefore (startOp (expansion u.cfg i) u).seq →
          tmp = (startOp (expansion u.cfg i) u).tmp := by simpa using htmp
      rw [startOp_withData]
      cases hpos : (expansion u.cfg i).pos u.seq with
      | none =>
        refine ⟨rx, tmp, complete_withData (c := u.cfg) ?_ hrx' htmp', ?_, ?_⟩
        · rwa [startOp_seq]
        · exact hrx'
        · exact htmp'
      | some m =>
        have hcs : (withData rx tmp (startOp (expansion u.cfg i) u)).cs = u.cs := startOp_cs _ u
        simp only [hcs, startOp_cs]
        split
        · exact runFrame_dataAlike hcheck hrx' htmp' (by rwa [startOp_seq])
        · rfl

end Sys2Proof.Machine

namespace Sys2Proof.Claim

open Sys2Proof Machine

/-! ### Runs -/

theorem coreRun_fault {M : Host.Core} {n : Nat} {s : M.State} {f : M.Fault} (h : M.step s = .fault f) :
    M.run (n + 1) s = .fault f := by
  rw [Host.Core.run, h]

theorem coreRun_refused {M : Host.Core} {n : Nat} {s : M.State} {r : M.Refusal} (h : M.step s = .refused r) :
    M.run (n + 1) s = .refused r := by
  rw [Host.Core.run, h]

/-- Runs whose first steps are alike are alike if the rest of them is. -/
theorem Alike.runs {R S : State → State → Prop} {n : Nat} {u v : State} (h : Alike R (step u) (step v))
    (hrest : ∀ u' v', step u = .next u' → R u' v' → Alike S (runs n u') (runs n v')) :
    Alike S (Claim.runs (n + 1) u) (Claim.runs (n + 1) v) := by
  cases hu : step u <;> cases hv : step v <;> rw [hu, hv] at h
  case next.next u' v' =>
    rw [runs_step hu, runs_step hv]
    exact hrest u' v' hu h
  case fault.fault f g =>
    have hru : Claim.runs (n + 1) u = .fault f := coreRun_fault hu
    have hrv : Claim.runs (n + 1) v = .fault g := coreRun_fault hv
    rw [hru, hrv]
    exact h
  case refused.refused r q =>
    have hru : Claim.runs (n + 1) u = .refused r := coreRun_refused hu
    have hrv : Claim.runs (n + 1) v = .refused q := coreRun_refused hv
    rw [hru, hrv]
    exact h
  all_goals exact h.elim

/-- While an operation runs it and the configuration stay. -/
theorem op_of_step {u t : State} (hopv : u.opv = true) (h : step u = .next t) (ht : t.opv = true) :
    t.op = u.op ∧ t.cfg = u.cfg := by
  obtain ⟨r, -, rfl⟩ | ⟨-, rfl⟩ | ⟨-, -, i, k, rest, hexec, ⟨-, rfl, -, -⟩ | ⟨hidle, -⟩⟩ := step_inv h
  · cases ht
  · exact ⟨rfl, rfl⟩
  · obtain ⟨-, hstep⟩ := opStep_of_exec hexec
    obtain ⟨hop, hcfg, -⟩ := hstep.keeps
    exact ⟨hop, hcfg⟩
  · rw [hopv] at hidle
    cases hidle

section

variable {u v : State}

theorem runStep_dataAlike (w : Bool) (h : DataAlike (expansion u.cfg u.op) u v) (hopv : u.opv = true) :
    Alike (DataAlike (expansion u.cfg u.op)) (runStep w u) (runStep w v) := by
  have hexec := exec_dataAlike h
  obtain ⟨rx, tmp, rfl, hrx, htmp⟩ := h
  have hfault : (withData rx tmp u).fault = u.fault := rfl
  have hopv' : (withData rx tmp u).opv = true := hopv
  unfold runStep
  rw [hfault, if_pos hopv, if_pos hopv']
  split
  · split
    · exact ⟨rx, tmp, rfl, hrx, htmp⟩
    · rfl
  · exact hexec

/-- One step of a running block, from two states that differ in the data registers. -/
theorem step_dataAlike (h : DataAlike (expansion u.cfg u.op) u v) (hopv : u.opv = true) :
    Alike (DataAlike (expansion u.cfg u.op)) (step u) (step v) := by
  obtain ⟨rx, tmp, rfl, hrx, htmp⟩ := h
  have hreset : (withData rx tmp u).resetIn = u.resetIn := rfl
  unfold step
  rw [hreset]
  split
  · exact runStep_dataAlike false ⟨rx, tmp, rfl, hrx, htmp⟩ hopv
  next => exact ⟨_, _, rfl, fun _ => rfl, fun _ => rfl⟩
  next r _ => exact runStep_dataAlike (u := { u with resetIn := r }) true ⟨rx, tmp, rfl, hrx, htmp⟩ hopv

theorem runs_dataAlike {i : Instr} {c : Cfg} {n : Nat} (h : DataAlike (expansion c i) u v)
    (hop : u.opv = true → u.op = i ∧ u.cfg = c) (hopv : ∀ k, k < n → ∀ w, runs k u = .next w → w.opv = true) :
    Alike (fun u' v' => u' = { v' with rx := u'.rx, tmp := u'.tmp }) (runs n u) (runs n v) := by
  induction n generalizing u v with
  | zero =>
    obtain ⟨rx, tmp, rfl, -, -⟩ := h
    rfl
  | succ n ih =>
    have hrunning : u.opv = true := hopv 0 n.succ_pos u rfl
    obtain ⟨rfl, rfl⟩ := hop hrunning
    refine (step_dataAlike h hrunning).runs fun u' v' hstep h' => ih h' (op_of_step hrunning hstep) fun k hk w hw => ?_
    exact hopv (k + 1) (Nat.succ_lt_succ hk) w ((runs_step hstep).trans hw)

end

/-- Settles O50: the two states stay alike while the operation runs; a reset or a fault ends it. -/
theorem dataRegistersAreNotReadBeforeWritten : Obligations.DataRegistersAreNotReadBeforeWritten := by
  rintro n i s rx tmp ⟨-, hop, -, -, -⟩ hseq hrunning
  have hfirst {j : Nat} : ¬ j < s.seq := by omega
  have hstart : DataAlike (expansion s.cfg i) s (withData rx tmp s) :=
    ⟨rx, tmp, rfl, fun ⟨_, _, hj, _⟩ => absurd hj hfirst, fun ⟨_, _, hj, _⟩ => absurd hj hfirst⟩
  exact runs_dataAlike hstart (fun _ => ⟨hop, rfl⟩) hrunning

end Sys2Proof.Claim
end
